-- ==== Sys2Proof/Word.lean ====
section
/-! DEFINITION. The word types of the GH-2240: octets, station addresses, uptime, counters and their
widths (Introduction, sections 4.1, 4.2, 4.5 and 4.6). -/

namespace Sys2Proof

/-- One octet of a frame, a record or the boot record (12, section 12.1). -/
abbrev Byte := BitVec 8

/-- A 6-octet station address, its first octet in the top eight bits (Introduction, 4.6). -/
abbrev Address := BitVec 48

/-- An uptime value: a 64-bit count of oscillator ticks (R5). -/
abbrev Uptime := BitVec 64

/-- A value of the step epoch (R13). -/
abbrev Epoch := BitVec 32

/-- A 32-bit counter of events, which stops at 4,294,967,295 (Introduction, 4.5). -/
abbrev Counter := BitVec 32

/-- A 16-bit sequence number (R26, R124, R164, R181). -/
abbrev Seq := BitVec 16

end Sys2Proof
end

