-- ==== Sys2Proof/Syntax.lean ====
section
/-! DEFINITION. The commands of the part: one constructor of `Instr` for each row of
spec/opcode_table.json. The part is a block: a command is an event on a port, a line or a timer. -/

namespace Sys2Proof

/-- The two Ethernet ports: U faces the uplink, K the rack (Introduction, 1). -/
inductive Port
  | u
  | k
deriving DecidableEq, Repr

/-- The port a frame that arrived on this one leaves by. -/
def Port.other : Port → Port
  | .u => .k
  | .k => .u

/-- One value for each port. -/
structure PerPort (α : Type) where
  u : α
  k : α
deriving DecidableEq, Repr

/-- The value of one port. -/
def PerPort.get {α : Type} (x : PerPort α) : Port → α
  | .u => x.u
  | .k => x.k

/-- The pair with the value of one port replaced. -/
def PerPort.set {α : Type} (x : PerPort α) (p : Port) (v : α) : PerPort α :=
  match p with
  | .u => { x with u := v }
  | .k => { x with k := v }

/-- What the two lines carried since the last command: the octets of the frame arriving on each port,
in order, and the number of octets of the frame in egress that left each port (assumption 1). The
table has no row for an octet, so the commands of the frame path bring the octets with them. -/
structure Flow where
  rx : PerPort (List Byte)
  tx : PerPort Nat
deriving DecidableEq, Repr

/-- How the read of the configuration memory ended (R213): with octets, or as no reply. -/
inductive BootReply
  | octets (o : List Byte)
  | noReply
deriving DecidableEq, Repr

/-- The commands, in the order of spec/opcode_table.json. -/
inductive Instr
  /-- HARD_RESET (R213): power-on, or the reset input is asserted. -/
  | hardReset
  /-- BOOT_READ_END (R214): the read of the boot record ends. -/
  | bootReadEnd (reply : BootReply)
  /-- BOOT_READ_TIMEOUT (R213): 50 ms passed without the end of the read. -/
  | bootReadTimeout
  /-- OSCILLATOR_TICK (R1). -/
  | oscillatorTick
  /-- PULSE_WIDTH_EXPIRY (R18). -/
  | pulseWidthExpiry
  /-- PHASE_TIMER_EXPIRY (R4). -/
  | phaseTimerExpiry
  /-- FRAME_START (R6): the first octet after the start delimiter arrives on port `p`. -/
  | frameStart (p : Port) (flow : Flow) (first : Byte)
  /-- FOR_PART_DECISION (R57) for the frame arriving on port `p`. -/
  | forPartDecision (p : Port) (flow : Flow)
  /-- GTP_TRANSIT_WALK (R64) for the frame arriving on port `p`. -/
  | gtpTransitWalk (p : Port) (flow : Flow)
  /-- PASS_THROUGH_READY (R188): the head frame of the buffer of departure port `p` is ready. -/
  | passThroughReady (p : Port) (flow : Flow)
  /-- FRAME_END (R53) on arrival port `p`, for a frame without handling of its own. -/
  | frameEnd (p : Port) (flow : Flow)
  /-- FRAME_BAD_END (R54) on arrival port `p`. -/
  | frameBadEnd (p : Port) (flow : Flow)
  /-- QUERY_END (R70) on arrival port `p`. -/
  | queryEnd (p : Port) (flow : Flow)
  /-- ECHO_END (R29) on arrival port `p`. -/
  | echoEnd (p : Port) (flow : Flow)
  /-- PROBE_TIMER_EXPIRY (R25). -/
  | probeTimerExpiry
  /-- GROWTH_TIMER_EXPIRY (R45). -/
  | growthTimerExpiry
  /-- STORAGE_COMMAND_END (R133) on arrival port `p`. -/
  | storageCommandEnd (p : Port) (flow : Flow)
  /-- STORAGE_COMPLETION_END (R71) on arrival port `p`. -/
  | storageCompletionEnd (p : Port) (flow : Flow)
  /-- EXCHANGE_DEADLINE (R145): uptime reaches this deadline. -/
  | exchangeDeadline (deadline : Uptime)
  /-- REPORT_TIMER_EXPIRY (R178). -/
  | reportTimerExpiry
  /-- HOLD_OFF_EXPIRY (R124). -/
  | holdOffExpiry
  /-- SERVER_SILENCE (R107) of server entry `i`. -/
  | serverSilence (i : Fin 48)
  /-- SERVER_EVICTION (R108) of server entry `i`. -/
  | serverEviction (i : Fin 48)
  /-- FRAME_BOUNDARY (R191) of departure port `p`. -/
  | frameBoundary (p : Port) (flow : Flow)
  /-- EGRESS_END (R194) of departure port `p`. -/
  | egressEnd (p : Port) (flow : Flow)
  /-- LINK_LOSS (R196) of port `p`. -/
  | linkLoss (p : Port) (flow : Flow)
  /-- LINK_UP (R197) of port `p`. -/
  | linkUp (p : Port)
  /-- MGMT_REQ_END (R200) on arrival port `p`. -/
  | mgmtReqEnd (p : Port) (flow : Flow)
  /-- RESET_INPUT_RELEASE (R213). -/
  | resetInputRelease
deriving DecidableEq, Repr

end Sys2Proof
end

