-- ==== Sys2Proof/Decode.lean ====
section
/-! DEFINITION. The command that a word spells by the bits of spec/opcode_table.json. No row of the
table gives any bits (every row's "fields" is empty and none has "fixed"), so no word spells a
command. -/

namespace Sys2Proof

/-- The command spelled by the low `nbits` bits of `w`: none, since the table gives no row bits. -/
def decodeTableWord (_nbits _w : Nat) : Option Instr := none

end Sys2Proof
end

