-- ==== Sys2Proof/Config.lean ====
section
/-! DEFINITION. The constants of the part and its one free value. -/

namespace Sys2Proof.Config

/-- Ticks of one uptime second (Introduction, 4.2). -/
abbrev ticksPerSecond : Nat := 125000000

/-- Ticks of one uptime millisecond (Introduction, 4.2). -/
abbrev ticksPerMs : Nat := 125000

/-- Width of the second pulse in ticks (R17). -/
abbrev pulseTicks : Nat := 12500000

/-- Ticks after the release of the reset input at which the boot read ends as no reply (R213). -/
abbrev bootTimeoutTicks : Nat := 6250000

/-- Nanoseconds of one second. -/
abbrev nsPerSecond : Nat := 1000000000

/-- The rate limit of F and of A, in ppt (R2, R3). -/
abbrev rateLimit : Int := 200000000

/-- Octets of a pass-through buffer (R187). -/
abbrev bufferOctets : Nat := 32768

/-- Octets of a receive buffer, the longest accepted frame (R58, R187). -/
abbrev frameRoom : Nat := 9220

/-- Slots of the record ring (R158). -/
abbrev ringSlots : Nat := 2048

/-- Records one report carries at most (R181). -/
abbrev reportMax : Nat := 40

/-- The octet that a management READ returns where the spec gives an entry a place in the layout but
no value (assumption 8). It is a free value: it has no body, so nothing can be proved of it. The
arguments are the model's own request serial (`State.serial`), the place of the entry, and the place of
the octet in the entry. DESIGN CHOICE. -/
opaque freeOctet : Nat → Nat → Nat → BitVec 8

end Sys2Proof.Config
end

