-- ==== Sys2Proof/Machine/State.lean ====
section
/-! DEFINITION. The state of the part, block by block (Introduction, 3), as plain data, and the state
after reset. A field marked "the model's own" is no state of the spec. -/

namespace Sys2Proof.Machine

/-! ### Codes shared by the blocks -/

/-- Clock quality (Introduction, 4.7). -/
inductive Quality
  | unset | free | hold | acq | lock
deriving DecidableEq, Repr

/-- Discipline state (R22). -/
inductive DState
  | idle | acquire | locked | holdover | freerun
deriving DecidableEq, Repr

/-- Edge select of a condition bit (R118, R121). -/
inductive EdgeSelect
  | enter | leave | both
deriving DecidableEq, Repr

/-- The direction of an edge (R119). -/
inductive Edge
  | enter | leave
deriving DecidableEq, Repr

/-- A stamp as it stands in ten octets: seconds and nanoseconds (Introduction, 4.1). A received stamp
may hold nanoseconds above 999,999,999. -/
structure Stamp where
  sec : BitVec 48 := 0
  ns : BitVec 32 := 0
deriving DecidableEq, Repr

/-- The time counter: seconds, nanoseconds and the fraction in 2^-32 ns (R1). -/
structure TimeCounter where
  sec : BitVec 48 := 0
  ns : BitVec 32 := 0
  frac : BitVec 32 := 0
deriving DecidableEq, Repr

/-- The ingress record of a frame (R6). -/
structure Ingress where
  stamp : Stamp := {}
  uptime : Uptime := 0
  epoch : Epoch := 0
  quality : Quality := .unset
deriving DecidableEq, Repr

/-! ### RCU -/

/-- Rack Clock Unit (R20). The phase timer and the width timer hold their expiry uptime while running. -/
structure Rcu where
  time : TimeCounter := {}
  uptime : Uptime := 0
  f : Int := 0
  s : Int := 0
  a : Int := 0
  k : Int := 0
  phaseTimer : Option Uptime := none
  epoch : Epoch := 0
  timeSet : Bool := false
  ingressComp : PerPort (BitVec 16) := ⟨0, 0⟩
  egressComp : PerPort (BitVec 16) := ⟨0, 0⟩
  pulseFloor : Quality := .lock
  pulse : Bool := false
  pulseTimer : Option Uptime := none
deriving DecidableEq, Repr

/-! ### DSE -/

/-- The probe that is outstanding (R25 to R28): QUEUED while `sent` is absent, SENT once it holds t1 and
the egress epoch. -/
structure Outstanding where
  seq : Seq
  port : Port
  sent : Option (Stamp × Epoch)
deriving DecidableEq, Repr

/-- A PROBE frame that DSE holds: its sequence, its port and its octets, t1 still zero. -/
structure ProbeFrame where
  seq : Seq
  port : Port
  octets : List Byte
deriving DecidableEq, Repr

/-- The servo settings (R47). -/
structure ServoSettings where
  p : Int := 0
  gi : Nat := 4
  gp : Nat := 1
  delayCeiling : Nat := 1000000
  gate : Nat := 2000
  missLimit : Nat := 8
  stepThreshold : Nat := 1000000
  stepInLock : Bool := false
  lockWindow : Nat := 10000
  unlockThreshold : Nat := 100000
  rateJumpLimit : Nat := 500000
  holdoverBound : Nat := 100
  holdoverLimit : Nat := 100000
  probeDomain : Byte := 0
deriving DecidableEq, Repr

/-- The DSE counters (R49). -/
structure DseCounters where
  probesSent : Counter := 0
  probesDropped : Counter := 0
  probesUnsent : Counter := 0
  staleEchoes : Counter := 0
  echoStampFaults : Counter := 0
  upstreamUnlocked : Counter := 0
  delayRejects : Counter := 0
  gated : Counter := 0
  misses : Counter := 0
  echoesAccepted : Counter := 0
  dseSteps : Counter := 0
  offsetClamps : Counter := 0
  rateLimits : Counter := 0
  rateJumps : Counter := 0
deriving DecidableEq, Repr

/-- Discipline Engine (R50). `frame` is the PROBE frame standing in an origination queue, if any; `held`
is the held probe (R26). The runs and the lock count stop at 4,294,967,295 (2, opening). -/
structure Dse where
  state : DState := .idle
  probeTimer : Option Uptime := none
  nextSeq : Seq := 0
  outstanding : Option Outstanding := none
  frame : Option ProbeFrame := none
  held : Option ProbeFrame := none
  window : List Nat := []
  history : List Int := []
  missRun : BitVec 32 := 0
  lockInRun : BitVec 32 := 0
  unlockRun : BitVec 32 := 0
  lockCount : BitVec 32 := 0
  lastOffset : Option Int := none
  holdoverRate : Int := 0
  u : BitVec 32 := 0
  growthTimer : Option Uptime := none
  settings : ServoSettings := {}
  ctr : DseCounters := {}
deriving DecidableEq, Repr

/-! ### FCL -/

/-- The action of a filter (R62). -/
inductive Action
  | answer | date | transit | pass
deriving DecidableEq, Repr

/-- One filter entry with its hit counter (R62). -/
structure Filter where
  enable : Bool := false
  pattern : BitVec 32 := 0
  maskSel : BitVec 2 := 0
  action : Action := .pass
  target : BitVec 3 := 0
  hits : Counter := 0
deriving DecidableEq, Repr

/-- The station settings that FCL reads at a frame's first octet (R57, R73). -/
structure FrameSettings where
  own : Address := 0
  group : Address := 0
  tagType : BitVec 16 := 0
  timeType : BitVec 16 := 0
  storageType : BitVec 16 := 0
deriving DecidableEq, Repr

/-- What the pass-through buffer can do with a frame at its first octet (R187). -/
inductive Admission
  | room | full | down
deriving DecidableEq, Repr

/-- Where an arriving frame's octets go (R52, R57, R187): undecided while FCL has not decided, into the
receive buffer, into the other port's pass-through buffer, or discarded as refused. -/
inductive Course
  | undecided | forPart | passed | refused
deriving DecidableEq, Repr

/-- The frame arriving on a port. While its course is `forPart`, `octets` is the content of the port's
receive buffer; else it is what FCL reads of the frame. `count` is the number of octets received. -/
structure Arriving where
  ingress : Ingress
  settings : FrameSettings
  transparent : Bool
  admission : Admission
  course : Course := .undecided
  walked : Bool := false
  octets : List Byte := []
  count : Nat := 0
deriving DecidableEq, Repr

/-- The ingress counters of a port (R74). -/
structure IngressCounters where
  framesIn : Counter := 0
  badEnds : Counter := 0
  unclassified : Counter := 0
  misdirected : Counter := 0
  malformed : Counter := 0
  overruns : Counter := 0
deriving DecidableEq, Repr

/-- Frame Classifier (R75): 32 filters, 4 masks, and for each port the frame arriving and the counters.
The rack group address, the tag type and the station hash set are held with the station settings. -/
structure Fcl where
  filters : List Filter := List.replicate 32 {}
  masks : List (BitVec 32) := List.replicate 4 (BitVec.allOnes 32)
  arriving : PerPort (Option Arriving) := ⟨none, none⟩
  ctr : PerPort IngressCounters := ⟨{}, {}⟩
deriving DecidableEq, Repr

/-! ### DTR -/

/-- The state of a non-EMPTY server entry (R92). -/
inductive SState
  | probation | inBound | watch | drifting | silent
deriving DecidableEq, Repr

/-- A non-EMPTY server table entry (R92). `run` is the watch count in WATCH and the release count in
DRIFTING. The window runs while `fo` is present. -/
structure Server where
  state : SState := .probation
  pinned : Bool := false
  address : Address := 0
  allowance : BitVec 16 := 0
  select : EdgeSelect := .enter
  lastTi : Option Stamp := none
  lastQuery : Uptime := 0
  sampleEpoch : Option Epoch := none
  lastSample : Option Int := none
  fo : Option Int := none
  windowFo : Int := 0
  windowTi : Stamp := {}
  windowCount : Nat := 0
  drift : Option Int := none
  run : Nat := 0
  queries : Counter := 0
deriving DecidableEq, Repr

/-- The drift settings (R114). The timeouts are in seconds. -/
structure DriftSettings where
  autoLearn : Bool := true
  k : Nat := 3
  w : Nat := 16
  offsetBound : Nat := 100000
  rateBound : Nat := 10000
  confirm : Nat := 3
  wildLimit : Nat := 500000000
  silenceTimeout : Nat := 60
  evictionTime : Nat := 3600
  silentWarn : Bool := false
  majorityFloor : Nat := 4
deriving DecidableEq, Repr

/-- The DTR counters (R116). -/
structure DtrCounters where
  tracked : Counter := 0
  untracked : Counter := 0
  admissions : Counter := 0
  evictions : Counter := 0
  silenced : Counter := 0
  wild : Counter := 0
  windows : Counter := 0
  heldEvaluations : Counter := 0
deriving DecidableEq, Repr

/-- Drift Tracker (R117): 48 entries, an EMPTY one being `none`. -/
structure Dtr where
  servers : List (Option Server) := List.replicate 48 none
  settings : DriftSettings := {}
  majority : Bool := false
  evaluated : Nat := 0
  plus : Nat := 0
  minus : Nat := 0
  ctr : DtrCounters := {}
deriving DecidableEq, Repr

/-! ### ANU -/

/-- The contents of a slot that is FILLED or SENDING (R76), with the own station address, the time type
and the rack id in force at the claim (R81). It is SENDING once `egress` holds t3 and its epoch. -/
structure Answer where
  requester : Address
  port : Port
  tag : Option (BitVec 32)
  domain : Byte
  seq : Seq
  ts : Stamp
  t2 : Stamp
  epoch : Epoch
  quality : Quality
  uncertainty : BitVec 32
  served : Bool
  serverIndex : Byte := 255
  serverState : Option SState := none
  fo : Int := 0
  own : Address
  timeType : BitVec 16
  rackId : BitVec 16
  egress : Option (Stamp × Epoch) := none
deriving DecidableEq, Repr

/-- An answer slot: its contents while not FREE, its four counters and its overrun flag (R85, R90). -/
structure Slot where
  answer : Option Answer := none
  sent : Counter := 0
  dropped : Counter := 0
  unserved : Counter := 0
  overruns : Counter := 0
  overrunFlag : Bool := false
deriving DecidableEq, Repr

/-- Answer Unit (R88): eight slots and the answer floor. -/
structure Anu where
  slots : List Slot := List.replicate 8 {}
  floor : Quality := .acq
deriving DecidableEq, Repr

/-! ### WRU -/

/-- The phase of one copy of an alert (6, opening; 12.4). -/
inductive CopyPhase
  | queued | sending | ended | dropped
deriving DecidableEq, Repr

/-- One copy of an alert: the port it goes to, its phase and its frame. -/
structure AlertCopy where
  port : Port
  phase : CopyPhase
  octets : List Byte
deriving DecidableEq, Repr

/-- The alert in progress (R124 to R126), with the uptime of the latest egress end among its copies. -/
structure Alert where
  collector : AlertCopy
  manager : Option AlertCopy
  lastEnd : Option Uptime := none
deriving DecidableEq, Repr

/-- The WRU counters (R130). -/
structure WruCounters where
  built : Counter := 0
  framesSent : Counter := 0
  managerSent : Counter := 0
  framesDropped : Counter := 0
  managerOmitted : Counter := 0
deriving DecidableEq, Repr

/-- Warning Unit (R131). `alertLine` is the pin: true while asserted (R122). `testDue` is the model's
own: the alert build test of R124 is to be made when the effect in hand has ended; it is false between
commands. -/
structure Wru where
  pending : BitVec 54 := 0
  condition : BitVec 54 := 0
  lineMask : BitVec 54 := 0
  frameMask : BitVec 54 := 0
  select48 : EdgeSelect := .enter
  select49 : EdgeSelect := .enter
  alertDue : Bool := false
  alert : Option Alert := none
  lastAlertEnd : Option Uptime := none
  holdOff : Nat := 1000
  copyToManager : Bool := false
  alertSeq : Seq := 0
  alertLine : Bool := false
  testDue : Bool := false
  ctr : WruCounters := {}
deriving DecidableEq, Repr

/-! ### DTE -/

/-- A dating profile: its settings and seven counters (R134). -/
structure Profile where
  sheddable : Bool := false
  timeout : Nat := 30
  dated : Counter := 0
  completed : Counter := 0
  timedOut : Counter := 0
  reused : Counter := 0
  shed : Counter := 0
  undated : Counter := 0
  unmatched : Counter := 0
deriving DecidableEq, Repr

/-- The exchange key of a storage frame (R132). -/
structure ExchangeKey where
  initiator : Address
  flow : BitVec 24
  tag : BitVec 16
deriving DecidableEq, Repr

/-- An OPEN entry of the open exchange table (R135). -/
structure Exchange where
  key : ExchangeKey
  op : Byte
  profile : BitVec 3
  stamp : Stamp
  quality : Quality
  epoch : Epoch
  drifting : Bool
  deadline : Uptime
deriving DecidableEq, Repr

/-- Dating Engine (R157): 8 profiles, 256 entries, a FREE one being `none`, and the discarded counter. -/
structure Dte where
  profiles : List Profile := List.replicate 8 {}
  exchanges : List (Option Exchange) := List.replicate 256 none
  discarded : Counter := 0
deriving DecidableEq, Repr

/-! ### RRG -/

/-- How an exchange closed (R160). -/
inductive ExchangeOutcome
  | completed | timedOut | reused
deriving DecidableEq, Repr

/-- The cause of a SERVER_NOTICE (R110). -/
inductive ServerCause
  | admitted | removed | evicted | enterDrift | gross | leaveDrift | silenced
deriving DecidableEq, Repr

/-- The cause of a RACK_NOTICE (R162). -/
inductive RackCause
  | state | step | rateJump | majorityOn | majorityOff | freerun
deriving DecidableEq, Repr

/-- The body of a record (R160 to R163). An EMPTY server state is `none`. -/
inductive RecordBody
  | exchange (key : ExchangeKey) (op status : Byte) (outcome : ExchangeOutcome) (latency : BitVec 32)
  | server (index : Byte) (address : Address) (old new : Option SState) (cause : ServerCause)
      (fo drift : Option Int)
  | rack (cause : RackCause) (old new : DState) (value : Int)
  | mark (value : List Byte)
deriving DecidableEq, Repr

/-- A record of the ring: the common part of R159 and the body. -/
structure Record where
  quality : Quality
  stepped : Bool := false
  drifting : Bool := false
  seq : Seq := 0
  date : Stamp
  body : RecordBody
deriving DecidableEq, Repr

/-- The RRG counters (R175). -/
structure RrgCounters where
  written : Counter := 0
  lostStorage : Counter := 0
  lostNotice : Counter := 0
  delivered : Counter := 0
  flushed : Counter := 0
  pressureOnsets : Counter := 0
deriving DecidableEq, Repr

/-- Record Ring (R176). `held` is the content of the `count` slots from slot `oldest` upward, in ring
order; no other slot is ever read (R158). -/
structure Rrg where
  held : List Record := []
  oldest : Nat := 0
  next : Nat := 0
  count : Nat := 0
  seq : Seq := 0
  reserve : Nat := 32
  highMark : Nat := 1536
  lowMark : Nat := 512
  pressure : Bool := false
  ctr : RrgCounters := {}
deriving DecidableEq, Repr

/-! ### RPE -/

/-- The report in flight (9, opening): SENDING once its egress has begun, else QUEUED. -/
structure InFlight where
  sending : Bool
  port : Port
  n : Nat
  first : Seq
deriving DecidableEq, Repr

/-- The RPE counters (R185). -/
structure RpeCounters where
  built : Counter := 0
  sent : Counter := 0
  dropped : Counter := 0
deriving DecidableEq, Repr

/-- Report Engine (R186). The period is in milliseconds, 0 being off. The timer runs from the reset, at
uptime 0 with the first expiry one period later (R178). -/
structure Rpe where
  threshold : Nat := 16
  period : Nat := 1000
  timer : Option Uptime := some 125000000
  timerDue : Bool := false
  reportNow : Bool := false
  seq : Seq := 0
  inFlight : Option InFlight := none
  buffer : List Byte := []
  deferredFlush : Bool := false
  ctr : RpeCounters := {}
deriving DecidableEq, Repr

/-! ### EGM -/

/-- The source an origination queue entry names (R190). -/
inductive Source
  | slot (n : Nat)
  | probe
  | response
  | alert
  | report
deriving DecidableEq, Repr

/-- An origination queue entry: IN_EGRESS or QUEUED (R190). -/
structure QueueEntry where
  source : Source
  inEgress : Bool := false
deriving DecidableEq, Repr

/-- How the arrival of a buffered frame stands: still arriving, ended good, ended bad, or stopped before
its last octet (R188). -/
inductive Arrival
  | arriving | good | bad | stopped
deriving DecidableEq, Repr

/-- A frame of the pass-through buffer. `transit` is present for a transit frame and is the place of its
residence field, counted from the frame's first octet (R67, R192). -/
structure PassFrame where
  octets : List Byte
  arrival : Arrival := .arriving
  transit : Option Nat := none
  ingressUptime : Uptime := 0
deriving DecidableEq, Repr

/-- The frame in egress: the head frame of the pass-through buffer, with the residence that its copy
carries if it was rewritten (R192), or an originated frame with its check sequence. `sent` is the number of
octets that left. -/
inductive InEgress
  | pass (residence : Option (BitVec 48)) (sent : Nat)
  | own (source : Source) (octets : List Byte) (sent : Nat)
deriving DecidableEq, Repr

/-- Which check sequence a frame leaves with (R193): the one computed over the frame as it leaves, the four
octets as received, or the complement of the computed one. -/
inductive CheckSequence
  | computed | received | forcedBad
deriving DecidableEq, Repr

/-- A frame that has left a port: its octets, the four of its check sequence last, and which check sequence
they are. The model's own record of the line. -/
structure Departed where
  octets : List Byte
  check : CheckSequence
deriving DecidableEq, Repr

/-- The EGM counters of a port (R198). -/
structure EgmCounters where
  passSent : Counter := 0
  originatedSent : Counter := 0
  bufferFull : Counter := 0
  linkDrops : Counter := 0
  originatedDrops : Counter := 0
  forcedBadEnds : Counter := 0
  residenceSaturations : Counter := 0
deriving DecidableEq, Repr

/-- One Egress Merge (R199). `link` is true while the link is UP (DOWN at reset: assumption 9). `departed` is the last
frame that ended on the line, the model's own record (assumption 14). -/
structure Egm where
  link : Bool := false
  buffer : List PassFrame := []
  deferMark : Nat := 16384
  queue : List QueueEntry := []
  egress : Option InEgress := none
  departed : Option Departed := none
  ctr : EgmCounters := {}
deriving DecidableEq, Repr

/-! ### MGU -/

/-- The station settings (R205), with the settings of other blocks that stand in the STATION table. -/
structure Station where
  own : Address := 0
  manager : Address := 0
  rackId : BitVec 16 := 0
  timeType : BitVec 16 := 0x9C5E
  storageType : BitVec 16 := 0x9C5F
  collector : Address := 0
  collectorPort : Port := .u
  timeServer : Address := 0
  timeServerPort : Port := .u
  group : Address := 0
  tagType : BitVec 16 := 0
  hashSet : BitVec 64 := BitVec.allOnes 64
deriving DecidableEq, Repr

/-- The content of the response buffer (R207). -/
structure Response where
  octets : List Byte
  port : Port
  resetPending : Bool
deriving DecidableEq, Repr

/-- The MGU counters (R216). -/
structure MguCounters where
  accepted : Counter := 0
  refusedSource : Counter := 0
  busyDrops : Counter := 0
  malformed : Counter := 0
  responsesSent : Counter := 0
  responsesDropped : Counter := 0
deriving DecidableEq, Repr

/-- Management Unit (R205, R212, R213). `reading` is the boot state: READING or DONE. `readSince` is the
uptime at which the read of the boot record began, while it runs. What the settings hold before the record
is taken: assumption 10. -/
structure Mgu where
  reading : Bool := true
  readSince : Option Uptime := none
  bootFault : Bool := false
  station : Station := {}
  managerPort : Port := .u
  response : Option Response := none
  ctr : MguCounters := {}
deriving DecidableEq, Repr

/-! ### The part -/

/-- The whole part. `resetHeld` is the reset input: true while it is asserted (assumption 11). `serial` is the model's
own count of the management requests executed, which the free octets are a function of. `pending` is
the queue of commands that wait, first in, first out. -/
structure State where
  rcu : Rcu := {}
  dse : Dse := {}
  fcl : Fcl := {}
  anu : Anu := {}
  dtr : Dtr := {}
  wru : Wru := {}
  dte : Dte := {}
  rrg : Rrg := {}
  rpe : Rpe := {}
  egm : PerPort Egm := ⟨{}, {}⟩
  mgu : Mgu := {}
  resetHeld : Bool := true
  serial : Nat := 0
  pending : List Instr := []
deriving DecidableEq, Repr

/-- The part right after hard reset, the reset input still asserted, both links down as not yet detected
and nothing commanded (R20, R50, R75, R88, R117, R131, R157, R176, R186, R199, R213). -/
def State.reset : State := {}

/-- The reasons a step can stop with a fault: none. The spec gives every command of the table an effect
in every state (an event whose occasion is not present has none), so nothing raises a fault. -/
inductive Fault
deriving DecidableEq, Repr

/-- The reasons a command can be refused. -/
inductive Refusal
  /-- Raised by an arm of exec whose command has no meaning yet: no arm does. Safe: the machine stops. -/
  | notModelled (mnemonic : String)
deriving DecidableEq, Repr

end Sys2Proof.Machine
end

