-- ==== Sys2Proof/Machine/Operands.lean ====
section
/-! DEFINITION. The arithmetic words of the Introduction (4.4), octet order (4.6), stamps, and the fields
of the frames the part reads and forms (12). -/

namespace Sys2Proof.Machine

/-! ### Arithmetic words (Introduction, 4.4) -/

/-- `a / b` rounded to the nearest integer, a value exactly halfway going away from zero. -/
def roundDiv (a : Int) (b : Nat) : Int :=
  let q : Nat := (2 * a.natAbs + b) / (2 * b)
  if a < 0 then -(q : Int) else q

/-- Half of `a`, truncated toward zero. -/
def halve (a : Int) : Int := Int.tdiv a 2

/-- `v` replaced by the end of the range it lies beyond. -/
def clampInt (lo hi v : Int) : Int := max lo (min hi v)

/-- `v` replaced by the end of the range it lies beyond. -/
def clampNat (lo hi v : Nat) : Nat := max lo (min hi v)

/-- A magnitude saturated to an unsigned 32-bit field. -/
def saturate32 (n : Nat) : BitVec 32 := BitVec.ofNat 32 (min n 4294967295)

/-- `v` rounded after division by `2 ^ e`, a negative `e` being a multiplication. -/
def roundShift (v : Int) (e : Int) : Int :=
  if e < 0 then v * 2 ^ (-e).toNat else roundDiv v (2 ^ e.toNat)

/-- The mean of the values, rounded (R43, R44). -/
def roundMean (l : List Int) : Int := roundDiv l.sum l.length

/-! ### Counters and uptime (Introduction, 4.2 and 4.5) -/

/-- A counter after `n` further events: it stops at 4,294,967,295. -/
def addCount (c : Counter) (n : Nat) : Counter := saturate32 (c.toNat + n)

/-- A counter after one further event. -/
def bump (c : Counter) : Counter := addCount c 1

/-- The ticks from `since` to `now`, modulo 2^64 (R5). -/
def elapsed (now since : Uptime) : Nat := (now - since).toNat

/-- Whether uptime `now` has reached `due`: the difference modulo 2^64 lies in the lower half of its
range, every interval of the part being far shorter (R5; assumption 6). -/
def reached (now due : Uptime) : Bool := decide (elapsed now due < 2 ^ 63)

/-- Whether the timer has reached its expiry uptime; a stopped timer has none. -/
def timerReached (now : Uptime) : Option Uptime → Bool
  | none => false
  | some due => reached now due

/-- The uptime `n` ticks after `u`, modulo 2^64 (R5). -/
def after (u : Uptime) (n : Nat) : Uptime := u + BitVec.ofNat 64 n

/-! ### Stamps (Introduction, 4.1) -/

/-- A stamp as a count of nanoseconds; a received nanoseconds field is taken as it stands (R99). -/
def Stamp.nanos (t : Stamp) : Int := t.sec.toNat * 1000000000 + t.ns.toNat

/-- The stamp that lies `n` ns after 0 s 0 ns, for `n` below 2^48 s. -/
def stampOfNanos (n : Nat) : Stamp :=
  { sec := BitVec.ofNat 48 (n / 1000000000), ns := BitVec.ofNat 32 (n % 1000000000) }

/-- The last nanosecond of the valid range of rack time (1.5.1). -/
abbrev lastNano : Nat := 2 ^ 48 * 1000000000 - 1

/-- The time counter with its fraction dropped. -/
def TimeCounter.stamp (t : TimeCounter) : Stamp := { sec := t.sec, ns := t.ns }

/-- The time counter in whole nanoseconds. -/
def TimeCounter.nanos (t : TimeCounter) : Nat := t.sec.toNat * 1000000000 + t.ns.toNat

/-- The time counter moved to `n` ns after 0 s 0 ns, its fraction kept (R9). -/
def TimeCounter.moveTo (t : TimeCounter) (n : Nat) : TimeCounter :=
  { t with sec := BitVec.ofNat 48 (n / 1000000000), ns := BitVec.ofNat 32 (n % 1000000000) }

/-! ### Octets (Introduction, 4.6) -/

/-- The low `n` octets of `v`, most significant first. -/
def be : Nat → Nat → List Byte
  | 0, _ => []
  | n + 1, v => BitVec.ofNat 8 (v / 256 ^ n) :: be n v

/-- The two's complement of `v` in `n` octets. -/
def beInt (n : Nat) (v : Int) : List Byte := be n (v % (256 ^ n : Int)).toNat

/-- The number that octets spell, most significant first. -/
def ofBe (l : List Byte) : Nat := l.foldl (fun acc b => acc * 256 + b.toNat) 0

/-- The number in `n` octets of two's complement. -/
def signed (n : Nat) (v : Nat) : Int := if 2 * v < 256 ^ n then v else (v : Int) - 256 ^ n

/-- `n` octets of `l` from octet `o`. -/
def slice (o n : Nat) (l : List Byte) : List Byte := (l.drop o).take n

/-- The number in `n` octets of `l` from octet `o`. -/
def field (o n : Nat) (l : List Byte) : Nat := ofBe (slice o n l)

/-- `l` with the octets from octet `o` replaced. -/
def patch (o : Nat) (new l : List Byte) : List Byte := l.take o ++ new ++ l.drop (o + new.length)

/-- A stamp in 10 octets. -/
def Stamp.octets (t : Stamp) : List Byte := be 6 t.sec.toNat ++ be 4 t.ns.toNat

/-- The stamp in the 10 octets of `l` from octet `o`. -/
def stampAt (o : Nat) (l : List Byte) : Stamp :=
  { sec := BitVec.ofNat 48 (field o 6 l), ns := BitVec.ofNat 32 (field (o + 6) 4 l) }

/-- One octet for a yes or no (12.2). -/
def flagOctet (b : Bool) : List Byte := [if b then 1 else 0]

/-! ### Codes (12.1 to 12.4, Introduction 4.7, R78) -/

/-- Quality code (Introduction, 4.7). -/
def Quality.code : Quality → Nat
  | .unset => 0
  | .free => 1
  | .hold => 2
  | .acq => 3
  | .lock => 4

/-- The quality of a code, a code above 4 being taken as 4 (R18, R80). -/
def Quality.ofCode : Nat → Quality
  | 0 => .unset
  | 1 => .free
  | 2 => .hold
  | 3 => .acq
  | _ => .lock

/-- The lower of two qualities (R143). -/
def Quality.lower (a b : Quality) : Quality := if a.code ≤ b.code then a else b

/-- Discipline state code (12.1.3). -/
def DState.code : DState → Nat
  | .idle => 0
  | .acquire => 1
  | .locked => 2
  | .holdover => 3
  | .freerun => 4

/-- Server state code (R78). -/
def SState.code : SState → Nat
  | .probation => 1
  | .inBound => 2
  | .watch => 3
  | .drifting => 4
  | .silent => 5

/-- Server state code with EMPTY as 0 (R78). -/
def serverCode : Option SState → Nat
  | none => 0
  | some st => st.code

/-- Port code (12.4). -/
def portCode : Port → Nat
  | .u => 0
  | .k => 1

/-- Edge select code (12.4). -/
def EdgeSelect.code : EdgeSelect → Nat
  | .enter => 1
  | .leave => 2
  | .both => 3

/-- The edge select of a code; other values are none (R94, R121). -/
def EdgeSelect.ofCode : Nat → Option EdgeSelect
  | 1 => some .enter
  | 2 => some .leave
  | 3 => some .both
  | _ => none

/-- Filter action code (12.4). -/
def Action.code : Action → Nat
  | .answer => 1
  | .date => 2
  | .transit => 3
  | .pass => 4

/-- The filter action of a code; other values are none (R62). -/
def Action.ofCode : Nat → Option Action
  | 1 => some .answer
  | 2 => some .date
  | 3 => some .transit
  | 4 => some .pass
  | _ => none

/-- Exchange outcome code (12.3). -/
def ExchangeOutcome.code : ExchangeOutcome → Nat
  | .completed => 1
  | .timedOut => 2
  | .reused => 3

/-- SERVER_NOTICE cause code (12.3). -/
def ServerCause.code : ServerCause → Nat
  | .admitted => 1
  | .removed => 2
  | .evicted => 3
  | .enterDrift => 4
  | .gross => 5
  | .leaveDrift => 6
  | .silenced => 7

/-- RACK_NOTICE cause code (12.3). -/
def RackCause.code : RackCause → Nat
  | .state => 1
  | .step => 2
  | .rateJump => 3
  | .majorityOn => 4
  | .majorityOff => 5
  | .freerun => 6

/-! ### Frames as they are read (12.1) -/

/-- Whether the octets open a recognised tag (R55). -/
def tagged (cfg : FrameSettings) (l : List Byte) : Bool :=
  cfg.tagType != 0 && field 12 2 l == cfg.tagType.toNat

/-- The recognised tag, four octets as received, if there is one (R55). -/
def tagOf (cfg : FrameSettings) (l : List Byte) : Option (BitVec 32) :=
  if tagged cfg l then some (BitVec.ofNat 32 (field 12 4 l)) else none

/-- The place of the type field: 4 octets later in a tagged frame (R55). -/
def typeAt (cfg : FrameSettings) (l : List Byte) : Nat := if tagged cfg l then 16 else 12

/-- The place of the first octet after the type field. -/
def headerAt (cfg : FrameSettings) (l : List Byte) : Nat := typeAt cfg l + 2

/-- Destination address. -/
def destination (l : List Byte) : Address := BitVec.ofNat 48 (field 0 6 l)

/-- Source address. -/
def sourceAddress (l : List Byte) : Address := BitVec.ofNat 48 (field 6 6 l)

/-- Whether the type field makes the frame a GTP frame (R55). -/
def isGtp (cfg : FrameSettings) (l : List Byte) : Bool :=
  field (typeAt cfg l) 2 l == cfg.timeType.toNat

/-- Whether the type field makes the frame a storage frame (R55). -/
def isStorage (cfg : FrameSettings) (l : List Byte) : Bool :=
  !isGtp cfg l && field (typeAt cfg l) 2 l == cfg.storageType.toNat

/-- The GTP version octet (12.1.1). -/
def gtpVersion (cfg : FrameSettings) (l : List Byte) : Nat := field (headerAt cfg l) 1 l

/-- The GTP kind octet (12.1.1). -/
def gtpKind (cfg : FrameSettings) (l : List Byte) : Nat := field (headerAt cfg l + 1) 1 l

/-- The GTP domain octet (12.1.1). -/
def gtpDomain (cfg : FrameSettings) (l : List Byte) : Byte :=
  BitVec.ofNat 8 (field (headerAt cfg l + 2) 1 l)

/-- The GTP header sequence (12.1.1). -/
def gtpSequence (cfg : FrameSettings) (l : List Byte) : Seq :=
  BitVec.ofNat 16 (field (headerAt cfg l + 4) 2 l)

/-- The GTP body length (12.1.1). -/
def gtpBodyLength (cfg : FrameSettings) (l : List Byte) : Nat := field (headerAt cfg l + 6) 2 l

/-- The place of the residence field (12.1.1). -/
def residenceAt (cfg : FrameSettings) (l : List Byte) : Nat := headerAt cfg l + 8

/-- The place of the GTP body (12.1.1). -/
def bodyAt (cfg : FrameSettings) (l : List Byte) : Nat := headerAt cfg l + 14

/-- The GTP body, by its length field (R218). -/
def gtpBody (cfg : FrameSettings) (l : List Byte) : List Byte :=
  slice (bodyAt cfg l) (gtpBodyLength cfg l) l

/-- The storage op octet (12.1.4). -/
def storageOp (cfg : FrameSettings) (l : List Byte) : Nat := field (headerAt cfg l) 1 l

/-- The storage flow (12.1.4). -/
def storageFlow (cfg : FrameSettings) (l : List Byte) : BitVec 24 :=
  BitVec.ofNat 24 (field (headerAt cfg l + 2) 3 l)

/-- The storage tag (12.1.4). -/
def storageTag (cfg : FrameSettings) (l : List Byte) : BitVec 16 :=
  BitVec.ofNat 16 (field (headerAt cfg l + 5) 2 l)

/-- The storage status octet (12.1.4). -/
def storageStatus (cfg : FrameSettings) (l : List Byte) : Byte :=
  BitVec.ofNat 8 (field (headerAt cfg l + 7) 1 l)

/-- The broadcast address. -/
abbrev broadcast : Address := BitVec.allOnes 48

/-- Whether an address has the group bit: the lowest bit of its first octet (R93, R205). -/
def isGroup (a : Address) : Bool := a.getLsbD 40

/-- Whether a GTP frame is for the part (R57). -/
def isForPart (cfg : FrameSettings) (l : List Byte) : Bool :=
  (destination l == cfg.own && cfg.own != 0) ||
  (gtpKind cfg l == 1 && cfg.group != 0 && destination l == cfg.group) ||
  (gtpKind cfg l == 5 && destination l == broadcast && cfg.own == 0)

/-- Whether a GTP frame gets a key (3.5). -/
def hasGtpKey (cfg : FrameSettings) (l : List Byte) : Bool :=
  gtpVersion cfg l == 1 && 1 ≤ gtpKind cfg l && gtpKind cfg l ≤ 8

/-- The tag identifier, 0 without a recognised tag (R55, R61). -/
def tagIdentifier (cfg : FrameSettings) (l : List Byte) : BitVec 12 :=
  if tagged cfg l then BitVec.ofNat 12 (field 14 2 l) else 0

/-- The key of a GTP frame (R61). -/
def gtpKey (cfg : FrameSettings) (l : List Byte) : BitVec 32 :=
  BitVec.ofNat 8 (0x10 + gtpKind cfg l) ++ gtpDomain cfg l ++ (0 : BitVec 4) ++ tagIdentifier cfg l

/-- The key of a storage frame (R61). -/
def storageKey (cfg : FrameSettings) (l : List Byte) : BitVec 32 :=
  BitVec.ofNat 8 (0x20 + storageOp cfg l) ++ storageFlow cfg l

/-! ### The check sequence (12.1) -/

/-- One bit of the check register: a shift, with the polynomial of Ethernet's check sequence where a one
leaves (PRESUMED, assumption 13). -/
def crcBit (c : BitVec 32) : BitVec 32 := (c >>> 1) ^^^ (if c.getLsbD 0 then 0xEDB88320 else 0)

/-- One octet of the check register, least significant bit first (PRESUMED, assumption 13). -/
def crcOctet (c : BitVec 32) (b : Byte) : BitVec 32 :=
  (List.range 8).foldl (fun c _ => crcBit c) (c ^^^ b.setWidth 32)

/-- The check sequence of Ethernet computed over octets, in the order in which its four octets stand in a
frame (12.1; PRESUMED, assumption 13). -/
def checkSequence (l : List Byte) : List Byte :=
  let c := ~~~(l.foldl crcOctet (BitVec.allOnes 32))
  [c.extractLsb' 0 8, c.extractLsb' 8 8, c.extractLsb' 16 8, c.extractLsb' 24 8]

/-- The forced bad check sequence: the complement of the one computed over the octets (R188, R193). -/
def forcedBadSequence (l : List Byte) : List Byte := (checkSequence l).map (~~~ ·)

/-- Whether the last four octets of a whole frame are the check sequence computed over the others
(R53, 12.1). -/
def checkIsGood (l : List Byte) : Bool :=
  4 ≤ l.length && l.drop (l.length - 4) == checkSequence (l.take (l.length - 4))

/-! ### Frames as they are formed (R217) -/

/-- Zero octets after the body, so that a short frame has 60 octets before its check sequence. -/
def padTo60 (l : List Byte) : List Byte := l ++ List.replicate (60 - l.length) 0

/-- An originated GTP frame up to its check sequence: version 1, residence 0, the body length of the body
(R217). -/
def gtpFrame (dst src : Address) (tag : Option (BitVec 32)) (typ : BitVec 16) (kind : Nat)
    (domain : Byte) (flags : Nat) (seq : Seq) (body : List Byte) : List Byte :=
  let tagOctets := match tag with
    | none => []
    | some t => be 4 t.toNat
  padTo60 (be 6 dst.toNat ++ be 6 src.toNat ++ tagOctets ++ be 2 typ.toNat ++
    be 1 1 ++ be 1 kind ++ be 1 domain.toNat ++ be 1 flags ++ be 2 seq.toNat ++ be 2 body.length ++
    be 6 0 ++ body)

/-- The place of the body in an untagged GTP frame: t1 of a PROBE stands there (12.1.2). -/
abbrev untaggedBodyAt : Nat := 28

/-- A signed value that may be absent, in 4 octets; absent is 0x80000000 (R110). -/
def absentInt4 : Option Int → List Byte
  | none => be 4 0x80000000
  | some v => beInt 4 v

/-- The body of a record in 18 octets (12.3). -/
def RecordBody.octets : RecordBody → List Byte
  | .exchange key op status outcome latency =>
      be 6 key.initiator.toNat ++ be 3 key.flow.toNat ++ be 2 key.tag.toNat ++ be 1 op.toNat ++
        be 1 status.toNat ++ be 1 outcome.code ++ be 4 latency.toNat
  | .server index address old new cause fo drift =>
      be 1 index.toNat ++ be 6 address.toNat ++ be 1 (serverCode old) ++ be 1 (serverCode new) ++
        be 1 cause.code ++ absentInt4 fo ++ absentInt4 drift
  | .rack cause old new value =>
      be 1 cause.code ++ be 1 old.code ++ be 1 new.code ++ beInt 8 value ++ be 7 0
  | .mark value => value ++ be 2 0

/-- The kind code of a record (12.3). -/
def RecordBody.kind : RecordBody → Nat
  | .exchange .. => 1
  | .server .. => 2
  | .rack .. => 3
  | .mark _ => 4

/-- Whether a record is of the storage class (R159). -/
def RecordBody.isStorage : RecordBody → Bool
  | .exchange .. => true
  | .server .. => false
  | .rack .. => false
  | .mark _ => false

/-- A record in 32 octets (12.3). -/
def Record.octets (r : Record) : List Byte :=
  be 1 r.body.kind ++
    be 1 (r.quality.code + (if r.stepped then 8 else 0) + (if r.drifting then 16 else 0)) ++
    be 2 r.seq.toNat ++ r.date.octets ++ r.body.octets

end Sys2Proof.Machine
end

