-- ==== Sys2Proof/Machine/Flags.lean ====
section
/-! DEFINITION. What is formed from the state each time it is taken: the clock quality, the reported
uncertainty, the port mode, the occupancy of a buffer, and the decisions that follow from flags. -/

namespace Sys2Proof.Machine

/-- The clock quality code, from the time-set flag and the discipline state (R15). -/
def quality (s : State) : Quality :=
  if s.rcu.timeSet then
    match s.dse.state with
    | .idle => .free
    | .freerun => .free
    | .holdover => .hold
    | .acquire => .acq
    | .locked => .lock
  else .unset

/-- The reported uncertainty (R16). -/
def uncertainty (s : State) : BitVec 32 :=
  if s.rcu.timeSet then
    match s.dse.state with
    | .idle => BitVec.allOnes 32
    | .freerun => BitVec.allOnes 32
    | .holdover => s.dse.u
    | .acquire | .locked =>
      match s.dse.lastOffset with
      | none => BitVec.allOnes 32
      | some v => saturate32 v.natAbs
  else BitVec.allOnes 32

/-- Whether a discipline state lies in the set of the UNLOCKED condition (R22). -/
def DState.unlocked : DState → Bool
  | .idle => false
  | .acquire => false
  | .locked => false
  | .holdover => true
  | .freerun => true

/-- The applied rate of F and S (R2). -/
def appliedRate (f s : Int) : Int := clampInt (-Config.rateLimit) Config.rateLimit (f + s)

/-- The fractional increment of an applied rate (R2). -/
def increment (a : Int) : Int := roundDiv (8 * a * 4294967296) 1000000000000

/-- Ticks of one probe interval, 2^p s, for p from -3 to 4 (R4, R25). -/
def probeTicks (p : Int) : Nat := 15625000 * 2 ^ (p + 3).toNat

/-- Octets of the frame in egress that have left the pass-through buffer. -/
def InEgress.passSent : Option InEgress → Nat
  | some (.pass _ sent) => sent
  | some (.own ..) => 0
  | none => 0

/-- Occupancy: the octets written into the pass-through buffer and not yet sent (R187). -/
def occupancy (e : Egm) : Nat :=
  (e.buffer.map (fun f => f.octets.length)).sum - InEgress.passSent e.egress

/-- The free room of a pass-through buffer (R187). -/
def freeRoom (e : Egm) : Nat := Config.bufferOctets - occupancy e

/-- Whether a buffered frame is ready (R188). -/
def PassFrame.ready (f : PassFrame) : Bool := 64 ≤ f.octets.length || f.arrival != .arriving

/-- The pressure flag after a change of count or of a mark (R167). -/
def pressureAfter (before : Bool) (count high low : Nat) : Bool :=
  if before then decide (low < count) else decide (high ≤ count)

/-- Whether the alert line is asserted for a pending set and a line-enable mask (R122). -/
def lineAsserted (pending lineMask : BitVec 54) : Bool := pending &&& lineMask != 0

/-- Whether an edge is latched under a select (R119). -/
def EdgeSelect.latches : EdgeSelect → Edge → Bool
  | .both, _ => true
  | .enter, .enter => true
  | .leave, .leave => true
  | .enter, .leave => false
  | .leave, .enter => false

/-- A warning bit set with bit `b` set or cleared. -/
def putBit (v : BitVec 54) (b : Nat) (on : Bool) : BitVec 54 :=
  if on then v ||| BitVec.twoPow 54 b else v &&& ~~~(BitVec.twoPow 54 b)

/-- The warning condition of a server entry (R111). -/
def warns (silentWarn : Bool) (st : SState) : Bool :=
  match st with
  | .drifting => true
  | .silent => silentWarn
  | .probation => false
  | .inBound => false
  | .watch => false

/-- Whether DTR counts the entry among the evaluated ones (R112). -/
def SState.evaluated : SState → Bool
  | .inBound => true
  | .watch => true
  | .drifting => true
  | .probation => false
  | .silent => false

/-- The number of server table entries in DRIFTING (R124). -/
def driftingCount (servers : List (Option Server)) : Nat :=
  servers.countP fun e =>
    match e with
    | some sv => sv.state == .drifting
    | none => false

/-- Whether the source is admissible to the server table (R93). -/
def admissible (a : Address) : Bool := a != 0 && !isGroup a

/-- The index of an address in the station hash set (R72). -/
def hashIndex (a : Address) : Nat :=
  let x := (be 6 a.toNat).foldl (fun acc b => acc ^^^ b) (0 : Byte)
  (x.toNat % 64) ^^^ (x.toNat / 64)

/-- Whether a filter matches a key (R63). -/
def Filter.covers (f : Filter) (masks : List (BitVec 32)) (key : BitVec 32) : Bool :=
  let m := masks.getD f.maskSel.toNat (BitVec.allOnes 32)
  f.enable && (key &&& m) == (f.pattern &&& m)

end Sys2Proof.Machine
end

