-- ==== Sys2Proof/Machine/Ops.lean ====
section
/-! DEFINITION. The operations that several blocks share: the flow of octets, the origination queues,
latching a warning, the record ring and its reports, and building an alert. -/

namespace Sys2Proof.Machine

/-! ### The parts of the state -/

/-- The EGM of a port. -/
def State.port (s : State) (p : Port) : Egm := s.egm.get p

/-- The state with the EGM of a port replaced. -/
def State.setPort (s : State) (p : Port) (e : Egm) : State := { s with egm := s.egm.set p e }

/-- The frame arriving on a port. -/
def State.arriving (s : State) (p : Port) : Option Arriving := s.fcl.arriving.get p

/-- The state with the frame arriving on a port replaced. -/
def State.setArriving (s : State) (p : Port) (a : Option Arriving) : State :=
  { s with fcl := { s.fcl with arriving := s.fcl.arriving.set p a } }

/-- The ingress counters of a port changed. -/
def State.countIngress (s : State) (p : Port) (f : IngressCounters → IngressCounters) : State :=
  { s with fcl := { s.fcl with ctr := s.fcl.ctr.set p (f (s.fcl.ctr.get p)) } }

/-- The EGM counters of a port changed. -/
def State.countEgress (s : State) (p : Port) (f : EgmCounters → EgmCounters) : State :=
  s.setPort p { s.port p with ctr := f (s.port p).ctr }

/-! ### The flow of octets (R187; assumption 1) -/

/-- Octets written to the last frame of the buffer while it is still arriving. Octets that find no room
are discarded and the frame's arrival has then stopped (R187, R188). -/
def Egm.write (e : Egm) (o : List Byte) : Egm :=
  match e.buffer.getLast? with
  | none => e
  | some f =>
    if f.arrival = .arriving then
      let room := freeRoom e
      let f := { f with
        octets := f.octets ++ o.take room
        arrival := if room < o.length then .stopped else .arriving }
      { e with buffer := e.buffer.dropLast ++ [f] }
    else e

/-- A frame is put behind the frames of a port's buffer, or refused and counted, as its admission was
decided (R187, R197). -/
def enterBuffer (p : Port) (how : Admission) (f : PassFrame) (s : State) : State :=
  match how with
  | .room => s.setPort p { s.port p with buffer := (s.port p).buffer ++ [f] }
  | .full => s.countEgress p fun c => { c with bufferFull := bump c.bufferFull }
  | .down => s.countEgress p fun c => { c with linkDrops := bump c.linkDrops }

/-- The course of a frame that is not for the part (R187). -/
def Admission.course : Admission → Course
  | .room => .passed
  | .full => .refused
  | .down => .refused

/-- The frame arriving on a port is not for the part: the octets received so far enter the other port's
buffer, by the admission decided at the first octet; octets that find no room are discarded (R57, R187;
assumption 3). -/
def passOn (p : Port) (a : Arriving) (s : State) : State :=
  let room := freeRoom (s.port p.other)
  let f : PassFrame :=
    { octets := a.octets.take room
      arrival := if room < a.octets.length then .stopped else .arriving
      ingressUptime := a.ingress.uptime }
  (enterBuffer p.other a.admission f s).setArriving p (some { a with course := a.admission.course })

/-- Whether the octets through the type field have been received (R55). -/
def typeReceived (a : Arriving) : Bool :=
  14 ≤ a.octets.length && headerAt a.settings a.octets ≤ a.octets.length

/-- What FCL can decide of a frame from the octets received: whether it is for the part, once that is
known (R55 to R57). -/
def recognise (a : Arriving) : Option Bool :=
  if typeReceived a then
    if isGtp a.settings a.octets then
      if headerAt a.settings a.octets + 2 ≤ a.octets.length then
        some (isForPart a.settings a.octets)
      else none
    else some false
  else none

/-- FCL decides the course of the frame arriving on a port, if it has not and now can (R57). -/
def decideCourse (p : Port) (s : State) : State :=
  match s.arriving p with
  | none => s
  | some a =>
    if a.course = .undecided then
      match recognise a with
      | none => s
      | some true =>
        s.setArriving p (some { a with course := .forPart, octets := a.octets.take Config.frameRoom })
      | some false => passOn p a s
    else s

/-- Octets of the frame arriving on a port are received: FCL reads them, the receive buffer holds at most
9,220 of them, and those of a frame that passes are written to the other port's buffer (R57, R58, R187).
Those of a frame whose course is open are kept until FCL decides it. Octets of no frame begun are dropped
(R75). -/
def takeOctets (p : Port) (o : List Byte) (s : State) : State :=
  match s.arriving p with
  | none => s
  | some a =>
    let octets := a.octets ++ o
    let a' := { a with
      octets := if a.course = .undecided then octets else octets.take Config.frameRoom
      count := a.count + o.length }
    let s := s.setArriving p (some a')
    if a.course = .passed then s.setPort p.other ((s.port p.other).write o) else s

/-- Octets are received on a port, and FCL decides the frame's course as soon as they tell it, whatever
command they ride on, so that occupancy and refusals follow at once (R57, R187). -/
def receiveOctets (p : Port) (o : List Byte) (s : State) : State := decideCourse p (takeOctets p o s)

/-- Octets of the frame in egress leave (R187, R188): never more than have been written. -/
def Egm.send (e : Egm) (n : Nat) : Egm :=
  match e.egress with
  | none => e
  | some (.pass r sent) =>
    let written := match e.buffer with
      | [] => 0
      | f :: _ => f.octets.length
    { e with egress := some (.pass r (min (sent + n) written)) }
  | some (.own src o sent) => { e with egress := some (.own src o (min (sent + n) o.length)) }

/-- What the lines carried since the last command: the octets received, then the octets sent. -/
def applyFlow (fl : Flow) (s : State) : State :=
  let s := receiveOctets .u fl.rx.u s
  let s := receiveOctets .k fl.rx.k s
  let s := s.setPort .u ((s.port .u).send fl.tx.u)
  s.setPort .k ((s.port .k).send fl.tx.k)

/-! ### Frames as they leave (R188, R192, R193) -/

/-- The octets of a pass-through frame as it leaves, its residence rewritten if it was (R192). -/
def passOctets (f : PassFrame) (residence : Option (BitVec 48)) : List Byte :=
  match f.transit, residence with
  | some place, some r => patch place (be 6 r.toNat) f.octets
  | _, _ => f.octets

/-- The four octets that a frame leaves with after `body`: the check sequence computed over it, or its
complement; none where those received stand in the body (R188, R193). -/
def CheckSequence.after (check : CheckSequence) (body : List Byte) : List Byte :=
  match check with
  | .computed => checkSequence body
  | .received => []
  | .forcedBad => forcedBadSequence body

/-- A frame that leaves with these octets and this check sequence (R193). -/
def departAs (check : CheckSequence) (body : List Byte) : Departed :=
  { octets := body ++ check.after body, check := check }

/-! ### Latching a warning (6.1) -/

/-- A pending bit is set. A change from clear to set decides the alert line again and, when the bit is
frame-enabled, sets alert-due; the rise of alert-due calls for the alert build test (R118, R122 to
R124). -/
def latch (b : Nat) (s : State) : State :=
  if s.wru.pending.getLsbD b then s
  else
    let pending := putBit s.wru.pending b true
    let enabled := s.wru.frameMask.getLsbD b
    { s with wru := { s.wru with
        pending := pending
        alertLine := lineAsserted pending s.wru.lineMask
        alertDue := s.wru.alertDue || enabled
        testDue := s.wru.testDue || (enabled && !s.wru.alertDue) } }

/-- WRU receives an edge of condition bit `b` with the select that goes with it (R119). -/
def giveEdge (b : Nat) (e : Edge) (select : EdgeSelect) (s : State) : State :=
  let s := { s with wru := { s.wru with condition := putBit s.wru.condition b (e == .enter) } }
  if select.latches e then latch b s else s

/-- The edge of a condition that was `before` and is `now`; none if it did not change. -/
def giveChange (b : Nat) (before now : Bool) (select : EdgeSelect) (s : State) : State :=
  if before = now then s
  else giveEdge b (if now then .enter else .leave) select s

/-! ### Origination queues (R190) -/

/-- An entry takes its place behind the queue's entries. -/
def pushEntry (p : Port) (src : Source) (s : State) : State :=
  s.setPort p { s.port p with queue := (s.port p).queue ++ [{ source := src }] }

/-- An originated frame is dropped by the EGM of a port, and counted there (R196, R197). -/
def countDrop (p : Port) (s : State) : State :=
  s.countEgress p fun c => { c with originatedDrops := bump c.originatedDrops }

/-! ### Reports (9.2, 9.3) -/

/-- Number of records in the report in flight (R174). -/
def inFlightCount (s : State) : Nat :=
  match s.rpe.inFlight with
  | none => 0
  | some r => r.n

/-- Whether a report is due (R180). -/
def reportIsDue (s : State) : Bool :=
  0 < s.rrg.count &&
    (s.rpe.threshold ≤ s.rrg.count - inFlightCount s || s.rrg.pressure || s.rpe.timerDue ||
      s.rpe.reportNow)

/-- Whether RPE builds a report at a due check (R180). -/
def reportCanBuild (s : State) : Bool :=
  reportIsDue s && s.rpe.inFlight.isNone && s.mgu.station.collector != 0 &&
    (s.port s.mgu.station.collectorPort).link

/-- The sequence number of the first record held; a report is built only while one is. -/
def firstSequence (s : State) : Seq :=
  match s.rrg.held with
  | [] => 0
  | r :: _ => r.seq

/-- Number of records the next report takes (R181). -/
def reportSize (s : State) : Nat := min s.rrg.count Config.reportMax

/-- The body of a report as it stands now (R181, 12.1.3). -/
def reportBody (s : State) : List Byte :=
  be 2 s.mgu.station.rackId.toNat ++ be 2 s.rpe.seq.toNat ++ be 2 (firstSequence s).toNat ++
    be 1 (reportSize s) ++ be 4 s.rrg.ctr.lostStorage.toNat ++ be 4 s.rrg.ctr.lostNotice.toNat ++
    be 1 (quality s).code ++ be 1 s.dse.state.code ++
    (s.rrg.held.take (reportSize s)).flatMap Record.octets

/-- The REPORT frame as it stands now (R181). -/
def reportFrame (s : State) : List Byte :=
  gtpFrame s.mgu.station.collector s.mgu.station.own none s.mgu.station.timeType 8 0 0 s.rpe.seq
    (reportBody s)

/-- RPE builds a report and queues it to the collector port (R181). -/
def buildReport (s : State) : State :=
  let p := s.mgu.station.collectorPort
  let rpe := { s.rpe with
    buffer := reportFrame s
    inFlight := some { sending := false, port := p, n := reportSize s, first := firstSequence s }
    seq := s.rpe.seq + 1
    timerDue := false
    reportNow := false
    ctr := { s.rpe.ctr with built := bump s.rpe.ctr.built } }
  pushEntry p .report { s with rpe := rpe }

/-- The due check (R180). -/
def dueCheck (s : State) : State := if reportCanBuild s then buildReport s else s

/-! ### The record ring (8.2 to 8.6) -/

/-- Pressure is decided again; its turning on is counted (R167). -/
def decidePressure (s : State) : State :=
  let now := pressureAfter s.rrg.pressure s.rrg.count s.rrg.highMark s.rrg.lowMark
  let onset := now && !s.rrg.pressure
  { s with rrg := { s.rrg with
      pressure := now
      ctr := if onset then { s.rrg.ctr with pressureOnsets := bump s.rrg.ctr.pressureOnsets }
             else s.rrg.ctr } }

/-- The count below which a record of this class is taken into the ring (R165). -/
def classLimit (g : Rrg) (body : RecordBody) : Nat :=
  if body.isStorage then Config.ringSlots - g.reserve else Config.ringSlots

/-- The ring with a record written to slot next under the next sequence number (R158, R164, R165). -/
def Rrg.write (g : Rrg) (r : Record) : Rrg :=
  { g with
    held := g.held ++ [{ r with seq := g.seq }]
    next := (g.next + 1) % Config.ringSlots
    count := g.count + 1
    seq := g.seq + 1
    ctr := { g.ctr with written := bump g.ctr.written } }

/-- The ring after a refused record: its sequence number is spent and the loss counted (R164, R166). -/
def Rrg.lose (g : Rrg) (body : RecordBody) : Rrg :=
  { g with
    seq := g.seq + 1
    ctr := if body.isStorage then { g.ctr with lostStorage := bump g.ctr.lostStorage }
           else { g.ctr with lostNotice := bump g.ctr.lostNotice } }

/-- A record is offered: it takes the next sequence number and is admitted, with pressure decided and the
due check made, or is refused, counted and raises RING_LOSS (R164 to R166, R180). -/
def offer (r : Record) (s : State) : State :=
  if s.rrg.count < classLimit s.rrg r.body then
    dueCheck (decidePressure { s with rrg := s.rrg.write r })
  else
    latch 53 { s with rrg := s.rrg.lose r.body }

/-- A RACK_NOTICE is offered, dated and rated at this instant (R46, R162). -/
def rackNotice (cause : RackCause) (old new : DState) (value : Int) (s : State) : State :=
  offer { quality := quality s, date := s.rcu.time.stamp, body := .rack cause old new value } s

/-- A SERVER_NOTICE is offered for entry `i`, dated and rated at this instant, with the entry's offset and
drift as `sv` holds them (R110, R161). -/
def serverNotice (i : Nat) (sv : Server) (old new : Option SState) (cause : ServerCause)
    (s : State) : State :=
  offer { quality := quality s, date := s.rcu.time.stamp,
          body := .server (BitVec.ofNat 8 i) sv.address old new cause sv.fo sv.drift } s

/-- The ring with its `n` oldest records removed (R170). -/
def Rrg.remove (g : Rrg) (n : Nat) : Rrg :=
  { g with
    held := g.held.drop n
    oldest := (g.oldest + n) % Config.ringSlots
    count := g.count - n
    ctr := { g.ctr with delivered := addCount g.ctr.delivered n } }

/-- Every record held is discarded and counted as flushed, and pressure is decided again (R171). -/
def flushRing (s : State) : State :=
  decidePressure { s with rrg := { s.rrg with
    held := []
    oldest := s.rrg.next
    count := 0
    ctr := { s.rrg.ctr with flushed := addCount s.rrg.ctr.flushed s.rrg.count } } }

/-- A flush deferred while a report was in flight is performed (R172). -/
def deferredFlush (s : State) : State :=
  if s.rpe.deferredFlush then
    let s := flushRing s
    { s with rpe := { s.rpe with deferredFlush := false } }
  else s

/-! ### Alerts (6.3, 6.4) -/

/-- Whether the hold-off has expired (R124). -/
def holdOffExpired (s : State) : Bool :=
  match s.wru.lastAlertEnd with
  | none => true
  | some e => s.wru.holdOff * Config.ticksPerMs ≤ elapsed s.rcu.uptime e

/-- Whether WRU builds an alert at its test (R124). -/
def alertCanBuild (s : State) : Bool :=
  s.wru.alertDue && s.mgu.station.collector != 0 && (s.port s.mgu.station.collectorPort).link &&
    s.wru.alert.isNone && holdOffExpired s

/-- The body of an alert: the snapshot of the warning picture (R124, 12.1.3). -/
def alertBody (s : State) : List Byte :=
  be 7 s.wru.pending.toNat ++ be 7 s.wru.condition.toNat ++ be 1 s.dse.state.code ++
    be 1 (quality s).code ++ be 4 (uncertainty s).toNat ++ be 1 (driftingCount s.dtr.servers) ++
    be 2 s.mgu.station.rackId.toNat

/-- An ALERT frame to a station as it stands now (R124, R125). -/
def alertFrame (dst : Address) (s : State) : List Byte :=
  gtpFrame dst s.mgu.station.own none s.mgu.station.timeType 7 0 0 s.wru.alertSeq (alertBody s)

/-- What becomes of the manager copy of an alert (R125). -/
inductive ManagerCopy
  | absent | shared | separate | omitted
deriving DecidableEq, Repr

/-- Whether and how a manager copy is formed (R125). -/
def managerCopy (s : State) : ManagerCopy :=
  if s.wru.copyToManager && s.mgu.station.manager != 0 then
    if s.mgu.managerPort = s.mgu.station.collectorPort then .shared
    else if (s.port s.mgu.managerPort).link then .separate
    else .omitted
  else .absent

/-- WRU builds an alert (R124, R125): the copies are formed and queued, the sequence advances and
alert-due is cleared. -/
def buildAlert (s : State) : State :=
  let kind := managerCopy s
  let collector : AlertCopy :=
    { port := s.mgu.station.collectorPort, phase := .queued, octets := alertFrame s.mgu.station.collector s }
  let manager : Option AlertCopy :=
    if kind = .shared ∨ kind = .separate then
      some { port := s.mgu.managerPort, phase := .queued, octets := alertFrame s.mgu.station.manager s }
    else none
  let wru := { s.wru with
    alert := some { collector := collector, manager := manager }
    alertSeq := s.wru.alertSeq + 1
    alertDue := false
    ctr := { s.wru.ctr with
      built := bump s.wru.ctr.built
      managerOmitted := if kind = .omitted then bump s.wru.ctr.managerOmitted
                        else s.wru.ctr.managerOmitted } }
  let s := pushEntry s.mgu.station.collectorPort .alert { s with wru := wru }
  if kind = .separate then pushEntry s.mgu.managerPort .alert s else s

/-- The alert build test (R124). -/
def alertTest (s : State) : State := if alertCanBuild s then buildAlert s else s

/-- The end of an effect: the alert build test is made if the effect called for it (R124). -/
def finish (s : State) : State :=
  if s.wru.testDue then alertTest { s with wru := { s.wru with testDue := false } } else s

/-- The alert build test is called for at the end of the effect in hand (R124). -/
def callAlertTest (s : State) : State := { s with wru := { s.wru with testDue := true } }

/-- Whether a copy is still QUEUED or SENDING. -/
def AlertCopy.live (c : AlertCopy) : Bool := c.phase == .queued || c.phase == .sending

/-- Whether any copy of an alert is still QUEUED or SENDING (R126). -/
def Alert.live (a : Alert) : Bool :=
  a.collector.live || (match a.manager with
    | none => false
    | some m => m.live)

/-- After a copy ended or was dropped: the alert stops being in progress when none of its copies is
QUEUED or SENDING; the last alert end then follows its latest ended copy, and the test is called for
(R126). -/
def settleAlert (a : Alert) (s : State) : State :=
  if a.live then { s with wru := { s.wru with alert := some a } }
  else callAlertTest { s with wru := { s.wru with
    alert := none
    lastAlertEnd := match a.lastEnd with
      | none => s.wru.lastAlertEnd
      | some e => some e } }

/-! ### Discipline state and steps -/

/-- The discipline state changes: a STATE notice is offered and an UNLOCKED edge given as the set
{HOLDOVER, FREERUN} is entered or left (R22). -/
def setDState (new : DState) (s : State) : State :=
  let old := s.dse.state
  if old = new then s
  else
    let s := { s with dse := { s.dse with state := new } }
    let s := rackNotice .state old new s.rcu.f s
    giveChange 48 old.unlocked new.unlocked s.wru.select48 s

/-- A and K are recomputed from F and S (R2). -/
def recomputeRate (s : State) : State :=
  let a := appliedRate s.rcu.f s.rcu.s
  { s with rcu := { s.rcu with a := a, k := increment a } }

/-- The outstanding probe is invalidated and a held probe discarded (R28). -/
def invalidateProbe (s : State) : State :=
  { s with dse := { s.dse with outstanding := none, held := none } }

/-- A step to `target` ns after 0 s 0 ns is applied (R9): the epoch advances, time is set, STEPPED is
raised, a STEP notice is offered, and the outstanding probe is invalidated (R28). -/
def applyStep (target : Nat) (s : State) : State :=
  let amount : Int := target - s.rcu.time.nanos
  let s := { s with rcu := { s.rcu with
    time := s.rcu.time.moveTo target
    epoch := s.rcu.epoch + 1
    timeSet := true } }
  let s := latch 51 s
  let s := rackNotice .step s.dse.state s.dse.state amount s
  invalidateProbe s

/-- Whether the counter moved by `n` ns stays in the valid range (1.5.1). -/
def stepInRange (n : Int) (s : State) : Bool :=
  0 ≤ (s.rcu.time.nanos : Int) + n && (s.rcu.time.nanos : Int) + n ≤ lastNano

/-! ### The ends of an answer -/

/-- A slot becomes FREE with its contents cleared, and one of its counters is changed (R83, R84). -/
def freeSlot (n : Nat) (count : Slot → Slot) (s : State) : State :=
  { s with anu := { s.anu with
      slots := s.anu.slots.modify n fun sl => count { sl with answer := none } } }

/-- An answer is dropped (R84). -/
def answerDropped (n : Nat) (s : State) : State :=
  freeSlot n (fun sl => { sl with dropped := bump sl.dropped }) s

/-- An answer ends (R83). -/
def answerEnded (n : Nat) (s : State) : State :=
  freeSlot n (fun sl => { sl with sent := bump sl.sent }) s

/-- A completed slot's entry is queued to its port, or dropped at once if the link is DOWN (R79, R197). -/
def queueAnswer (n : Nat) (p : Port) (s : State) : State :=
  if (s.port p).link then pushEntry p (.slot n) s else answerDropped n (countDrop p s)

end Sys2Proof.Machine
end

