-- ==== Sys2Proof/Machine/FramePath.lean ====
section
/-! DEFINITION. The frame path: the arrival of a frame, the decision of R57, the walks over the filters,
the ends of a frame, and the meanings of FRAME_START, FOR_PART_DECISION, GTP_TRANSIT_WALK, FRAME_END
and FRAME_BAD_END (3; R6, R52 to R75, R187). -/

namespace Sys2Proof.Machine

/-! ### Stamps (R6, R7) -/

/-- The ingress stamp on a port now (R6). -/
def ingressStamp (p : Port) (s : State) : Stamp :=
  stampOfNanos (s.rcu.time.nanos - (s.rcu.ingressComp.get p).toNat)

/-- The egress stamp on a port now (R7). -/
def egressStamp (p : Port) (s : State) : Stamp :=
  stampOfNanos (min lastNano (s.rcu.time.nanos + (s.rcu.egressComp.get p).toNat))

/-- The ingress record of a frame whose first octet arrives on a port now (R6). -/
def ingressRecord (p : Port) (s : State) : Ingress :=
  { stamp := ingressStamp p s, uptime := s.rcu.uptime, epoch := s.rcu.epoch, quality := quality s }

/-- The station settings that FCL reads at a frame's first octet (R57, R73). -/
def frameSettings (s : State) : FrameSettings :=
  { own := s.mgu.station.own, group := s.mgu.station.group, tagType := s.mgu.station.tagType
    timeType := s.mgu.station.timeType, storageType := s.mgu.station.storageType }

/-- What the buffer of a departure port can do with a frame that needs `need` octets of room (R187). -/
def admission (e : Egm) (need : Nat) : Admission :=
  if e.link then (if need ≤ freeRoom e then .room else .full) else .down

/-! ### In the pass-through buffer -/

/-- The last frame of a port's buffer changed. -/
def changeLast (p : Port) (f : PassFrame → PassFrame) (s : State) : State :=
  match (s.port p).buffer.getLast? with
  | none => s
  | some x => s.setPort p { s.port p with buffer := (s.port p).buffer.dropLast ++ [f x] }

/-- The arrival of a buffered frame ends; one that has stopped stays so (R188). -/
def PassFrame.endAs (how : Arrival) (f : PassFrame) : PassFrame :=
  if f.arrival = .arriving then { f with arrival := how } else f

/-! ### Walks (3.7) -/

/-- The first enabled filter, from number `i` on, that matches the key and whose action stops the walk. -/
def walkFirst (masks : List (BitVec 32)) (stops : Action → Bool) (key : BitVec 32) :
    List Filter → Nat → Option (Nat × Filter)
  | [], _ => none
  | f :: fs, i =>
    if f.covers masks key && stops f.action then some (i, f)
    else walkFirst masks stops key fs (i + 1)

/-- The hit counter of a filter is incremented (R62). -/
def countHit (i : Nat) (s : State) : State :=
  { s with fcl := { s.fcl with
      filters := s.fcl.filters.modify i fun f => { f with hits := bump f.hits } } }

/-- The actions that stop the walk of a GTP frame not for the part (R65, R67). -/
def stopsTransit : Action → Bool
  | .pass => true
  | .transit => true
  | .answer => false
  | .date => false

/-- The actions that stop the walk of a storage frame (R65, R66, R71). -/
def stopsDating : Action → Bool
  | .pass => true
  | .date => true
  | .answer => false
  | .transit => false

/-- The walk of a storage key: the filter that ends it has its hit counted, and a DATE entry names the
profile (R66, R71; assumption 15). -/
def datingWalk (key : BitVec 32) (s : State) : State × Option (BitVec 3) :=
  match walkFirst s.fcl.masks stopsDating key s.fcl.filters 0 with
  | none => (s, none)
  | some (i, f) => (countHit i s, if f.action = .date then some f.target else none)

/-! ### Ends of a frame (R53, R54) -/

/-- The longest accepted length of a frame (R53). -/
def lengthLimit (a : Arriving) : Nat := if tagged a.settings a.octets then 9220 else 9216

/-- Whether a frame's length lies in the accepted range (R53). -/
def goodLength (a : Arriving) : Bool := 64 ≤ a.count && a.count ≤ lengthLimit a

/-- What a frame that ends good is, by its octets (R52, R55, R56, R59, R60). -/
inductive EndClass
  | transparent | other | gtpPass | storageCommand | storageCompletion
  | malformed | misdirected | query | echo | mgmtReq
deriving DecidableEq, Repr

/-- Octets that follow the common header up to the check sequence (R59). -/
def bodyRoom (a : Arriving) : Nat := a.count - 4 - bodyAt a.settings a.octets

/-- Whether a frame for the part fails the checks of R59. -/
def isMalformed (a : Arriving) : Bool :=
  let c := a.settings
  let l := a.octets
  gtpVersion c l != 1 || gtpKind c l < 1 || 8 < gtpKind c l || bodyRoom a < gtpBodyLength c l ||
    (gtpKind c l == 1 && gtpBodyLength c l < 14) || (gtpKind c l == 4 && gtpBodyLength c l < 31)

/-- The class of a frame for the part (R59, R60). -/
def forPartClass (a : Arriving) : EndClass :=
  if isMalformed a then .malformed
  else
    match gtpKind a.settings a.octets with
    | 1 => .query
    | 4 => .echo
    | 5 => .mgmtReq
    | _ => .misdirected

/-- The class of a storage frame (R56). -/
def storageClass (a : Arriving) : EndClass :=
  let op := storageOp a.settings a.octets
  if 1 ≤ op && op ≤ 4 then .storageCommand
  else if op == 8 then .storageCompletion
  else .other

/-- The class of a frame (R52, R55). -/
def endClass (a : Arriving) : EndClass :=
  if a.transparent then .transparent
  else if a.course = .forPart then forPartClass a
  else if isGtp a.settings a.octets then .gtpPass
  else if isStorage a.settings a.octets then storageClass a
  else .other

/-- Whether the octets that have arrived are those of a frame that ends good: its length lies in the accepted
range and its check sequence is correct (R53). -/
def isGoodFrame (a : Arriving) : Bool := goodLength a && checkIsGood a.octets

/-- Whether a frame can end good. FCL does not parse a frame begun in TRANSPARENT mode, and its end takes
no effect either way (R52, R53). -/
def canEndGood (a : Arriving) : Bool := a.transparent || isGoodFrame a

/-- Whether a frame can end bad on the line: every end that is not good is bad (R53). -/
def canEndBad (a : Arriving) : Bool := a.transparent || !isGoodFrame a

/-- The frame arriving on a port ends: it is counted if begun in ACTIVE mode, and its copy in the other
port's buffer is complete (R53, R54, R58). -/
def closeArrival (p : Port) (a : Arriving) (how : Arrival) (s : State) : State :=
  let s := s.setArriving p none
  let s := if a.transparent then s else
    s.countIngress p fun c => { c with
      framesIn := bump c.framesIn
      badEnds := if how = .good then c.badEnds else bump c.badEnds }
  if a.course = .passed then changeLast p.other (PassFrame.endAs how) s else s

/-- A frame on port `p` ends good, and it is one of the frames that the command in hand is for: the frame
is closed and has the effect `k`. Where no such frame ends, the command's occasion is not present and
only the lines' octets count (assumption 2). DESIGN CHOICE (assumption 24): its end is counted before its effect,
so that a request it carries reads frames-in with its own frame, or zeroes that count. -/
def endsGood (p : Port) (fl : Flow) (isFor : EndClass → Bool) (k : Arriving → State → State)
    (s : State) : State :=
  let s := applyFlow fl s
  match s.arriving p with
  | none => s
  | some a =>
    if canEndGood a && isFor (endClass a) then k a (closeArrival p a .good s) else s

/-- Octets of a receive buffer move into the other port's buffer, as a frame whose length is known
(R54, R187). -/
def moveToBuffer (p : Port) (a : Arriving) (how : Arrival) (s : State) : State :=
  let f : PassFrame := { octets := a.octets, arrival := how, ingressUptime := a.ingress.uptime }
  enterBuffer p.other (admission (s.port p.other) a.octets.length) f s

/-- How the forwarded copy of a bad frame for the part ends: one that passed its upper limit has lost its
later octets (R54; assumption 5). -/
def badHow (a : Arriving) (how : Arrival) : Arrival :=
  if a.course = .forPart ∧ lengthLimit a < a.count then .stopped else how

/-- The frame arriving on a port ends bad: it takes no effect and is forwarded unchanged (R54). `how` is
`bad` for a frame received to its end and `stopped` for one whose arrival stopped. A frame that ends
before FCL can decide its course is not for the part. -/
def endsBad (p : Port) (how : Arrival) (s : State) : State :=
  match s.arriving p with
  | none => s
  | some a =>
    match a.course with
    | .forPart => moveToBuffer p a (badHow a how) (closeArrival p a how s)
    | .undecided =>
      let s := passOn p a s
      closeArrival p { a with course := a.admission.course } how s
    | .passed => closeArrival p a how s
    | .refused => closeArrival p a how s

/-! ### Meanings -/

/-- FRAME_START (R6, R52, R187): RCU takes the ingress record, the mode in force decides how the whole
frame is handled, and the other port's buffer decides whether it can take the frame. A frame begun in
TRANSPARENT mode enters that buffer at once. -/
def execFrameStart (p : Port) (flow : Flow) (first : Byte) (s : State) :
    Host.Outcome State Fault Refusal :=
  let s := applyFlow flow s
  if (s.port p).link && (s.arriving p).isNone then
    let a : Arriving :=
      { ingress := ingressRecord p s
        settings := frameSettings s
        transparent := s.mgu.reading
        admission := admission (s.port p.other) Config.frameRoom
        octets := [first]
        count := 1 }
    .next (if s.mgu.reading then passOn p a s else s.setArriving p (some a))
  else .next s

/-- FOR_PART_DECISION (R57): the octets through the kind octet arrive with this command, and with them the
frame goes to the receive buffer or to pass-through (`receiveOctets`). -/
def execForPartDecision (_p : Port) (flow : Flow) (s : State) : Host.Outcome State Fault Refusal :=
  .next (applyFlow flow s)

/-- Whether the walk of R64 is due for a frame: a keyed GTP frame not for the part, not walked yet, with
its domain octet received. -/
def transitWalkDue (a : Arriving) : Bool :=
  !a.transparent && !a.walked && (a.course = .passed || a.course = .refused) &&
    isGtp a.settings a.octets && headerAt a.settings a.octets + 3 ≤ a.octets.length &&
    hasGtpKey a.settings a.octets

/-- The walk of a GTP frame not for the part (R64, R65, R67, R69). -/
def transitWalk (p : Port) (a : Arriving) (s : State) : State :=
  let s := s.setArriving p (some { a with walked := true })
  match walkFirst s.fcl.masks stopsTransit (gtpKey a.settings a.octets) s.fcl.filters 0 with
  | none => s
  | some (i, f) =>
    let s := countHit i s
    if f.action = .transit ∧ a.course = .passed then
      changeLast p.other (fun x => { x with transit := some (residenceAt a.settings a.octets) }) s
    else s

/-- GTP_TRANSIT_WALK (R64): FCL walks the filters and may mark the frame as a transit frame. -/
def execGtpTransitWalk (p : Port) (flow : Flow) (s : State) : Host.Outcome State Fault Refusal :=
  let s := applyFlow flow s
  match s.arriving p with
  | none => .next s
  | some a => .next (if transitWalkDue a then transitWalk p a s else s)

/-- The classes that FRAME_END is for: frames without handling of their own (R53, R56, R59, R60). -/
def endsPlain : EndClass → Bool
  | .transparent => true
  | .other => true
  | .gtpPass => true
  | .malformed => true
  | .misdirected => true
  | .storageCommand => false
  | .storageCompletion => false
  | .query => false
  | .echo => false
  | .mgmtReq => false

/-- The counters of a frame for the part that is dropped (R59, R60, R74). -/
def countDropped (p : Port) (c : EndClass) (s : State) : State :=
  match c with
  | .malformed => s.countIngress p fun c => { c with malformed := bump c.malformed }
  | .misdirected => s.countIngress p fun c => { c with misdirected := bump c.misdirected }
  | .transparent => s
  | .other => s
  | .gtpPass => s
  | .storageCommand => s
  | .storageCompletion => s
  | .query => s
  | .echo => s
  | .mgmtReq => s

/-- FRAME_END (R53, R56, R59, R60): a frame without handling of its own ends good and is counted. -/
def execFrameEnd (p : Port) (flow : Flow) (s : State) : Host.Outcome State Fault Refusal :=
  .next (endsGood p flow endsPlain (fun a s => countDropped p (endClass a) s) s)

/-- What the end of a bad frame on the line does: the end of a frame whose octets make it good is no bad end
(R53; assumption 2). -/
def lineEndsBad (p : Port) (s : State) : State :=
  match s.arriving p with
  | none => s
  | some a => if canEndBad a then endsBad p .bad s else s

/-- FRAME_BAD_END (R53, R54): the frame takes no effect and is forwarded unchanged. -/
def execFrameBadEnd (p : Port) (flow : Flow) (s : State) : Host.Outcome State Fault Refusal :=
  .next (lineEndsBad p (applyFlow flow s))

end Sys2Proof.Machine
end

