-- ==== Sys2Proof/Machine/Tracking.lean ====
section
/-! DEFINITION. Server drift tracking: the server table, the sample of a tracked query, silence and
eviction, the majority condition, and the meanings of SERVER_SILENCE and SERVER_EVICTION (5; R92 to
R112). -/

namespace Sys2Proof.Machine

/-- The DTR counters changed. -/
def countDtr (f : DtrCounters → DtrCounters) (s : State) : State :=
  { s with dtr := { s.dtr with ctr := f s.dtr.ctr } }

/-- The server at an index, if the entry is not EMPTY. -/
def serverAt (i : Nat) (s : State) : Option Server := (s.dtr.servers[i]?).join

/-- The entry at an index replaced. -/
def setServer (i : Nat) (e : Option Server) (s : State) : State :=
  { s with dtr := { s.dtr with servers := s.dtr.servers.set i e } }

/-- Whether an entry holds an address (R92). -/
def holdsAddress (a : Address) : Option Server → Bool
  | none => false
  | some sv => sv.address == a

/-- The index of the entry that holds an address (R92, R93). -/
def findServer (a : Address) (s : State) : Option Nat := s.dtr.servers.findIdx? (holdsAddress a)

/-- The lowest-numbered EMPTY entry (R93). -/
def firstEmpty (s : State) : Option Nat := s.dtr.servers.findIdx? Option.isNone

/-! ### The majority condition (R112) -/

/-- The number of evaluated entries (R112). -/
def evaluatedCount (l : List (Option Server)) : Nat :=
  l.countP fun e => match e with
    | none => false
    | some sv => sv.state.evaluated

/-- The number of DRIFTING entries with fo at or above 0 (R112). -/
def plusCount (l : List (Option Server)) : Nat :=
  l.countP fun e => match e with
    | none => false
    | some sv => sv.state == .drifting && decide (0 ≤ sv.fo.getD 0)

/-- The number of DRIFTING entries with fo below 0 (R112). -/
def minusCount (l : List (Option Server)) : Nat :=
  l.countP fun e => match e with
    | none => false
    | some sv => sv.state == .drifting && decide (sv.fo.getD 0 < 0)

/-- The majority condition by its three counts and the floor (R112). -/
def majorityHolds (floor evaluated plus minus : Nat) : Bool :=
  floor ≤ evaluated && evaluated < 2 * max plus minus

/-- DTR recomputes the majority condition; a change offers a notice and gives the edge of bit 49
(R112). -/
def recomputeMajority (s : State) : State :=
  let ev := evaluatedCount s.dtr.servers
  let pl := plusCount s.dtr.servers
  let mi := minusCount s.dtr.servers
  let now := majorityHolds s.dtr.settings.majorityFloor ev pl mi
  let before := s.dtr.majority
  let s := { s with dtr := { s.dtr with majority := now, evaluated := ev, plus := pl, minus := mi } }
  if now = before then s
  else
    let s := rackNotice (if now then .majorityOn else .majorityOff) s.dse.state s.dse.state
      ((pl : Int) - mi) s
    giveChange 49 before now s.wru.select49 s

/-! ### The sample (5.3 to 5.5) -/

/-- What a sample of an entry came to. -/
structure Sample where
  server : Server
  wild : Bool
  completed : Bool
  heldBack : Bool
  cause : Option ServerCause

/-- Return from silence (R97). -/
def Server.wake (sv : Server) : Server :=
  if sv.state = .silent then
    { sv with state := .probation, fo := none, drift := none, windowCount := 0, run := 0 }
  else sv

/-- Bookkeeping of a query (R96 step 2). -/
def Server.book (sv : Server) (ing : Ingress) : Server :=
  { sv with queries := bump sv.queries, lastQuery := ing.uptime, lastTi := some ing.stamp }

/-- The reseed test (R96 step 3, R98). -/
def Server.reseed (sv : Server) (epoch : Epoch) : Server :=
  let stepped := match sv.sampleEpoch with
    | none => false
    | some e => e != epoch
  { sv with fo := if stepped then none else sv.fo, sampleEpoch := some epoch }

/-- The delay allowance of a query (R99). -/
def delayAllowance (sv : Server) (lastDelay : BitVec 32) : Nat :=
  if lastDelay.toNat ≤ 1000000 then lastDelay.toNat else sv.allowance.toNat

/-- The offset sample (R99). -/
def offsetSample (sv : Server) (ts ti : Stamp) (lastDelay : BitVec 32) : Int :=
  clampInt (-2147483647) 2147483647 (ts.nanos + delayAllowance sv lastDelay - ti.nanos)

/-- The filtered offset after a sample (R100). -/
def filteredOffset (fo : Option Int) (o : Int) (k : Nat) : Int :=
  match fo with
  | none => o
  | some fo => clampInt (-2147483647) 2147483647 (fo + roundDiv (o - fo) (2 ^ k))

/-- The sample is taken: fo is updated, or seeded with the window's start (R100, R101). -/
def Server.take (sv : Server) (o : Int) (ti : Stamp) (k : Nat) : Server :=
  let fo := filteredOffset sv.fo o k
  let sv' := { sv with lastSample := some o, fo := some fo }
  if sv.fo.isNone then { sv' with windowFo := fo, windowTi := ti, windowCount := 0 } else sv'

/-- The drift over a window (R101). -/
def windowDrift (foStart fo : Int) (span : Int) : Int :=
  clampInt (-1000000) 1000000 (Int.tdiv ((fo - foStart) * 1000000000) span)

/-- The window step of a query that did not seed fo: it counts, and may complete the window (R101). A wild
sample counts and does not complete the window it falls in (R102; assumption 21). -/
def Server.windowStep (sv : Server) (ti : Stamp) (w : Nat) (wild : Bool) : Server × Bool :=
  let n := min (sv.windowCount + 1) 65535
  let span := ti.nanos - sv.windowTi.nanos
  let fo := sv.fo.getD 0
  if w ≤ n ∧ 1000000000 ≤ span ∧ wild = false then
    ({ sv with drift := some (windowDrift sv.windowFo fo span), windowFo := fo, windowTi := ti
               windowCount := 0 }, true)
  else ({ sv with windowCount := n }, false)

/-- Offset release or rate release of a bound (5.5). -/
def releaseOf (bound : Nat) : Nat := 3 * bound / 4

/-- Whether the sample is exceeding (R103). -/
def exceeding (st : DriftSettings) (sv : Server) : Bool :=
  decide (st.offsetBound < (sv.fo.getD 0).natAbs) ||
    (match sv.drift with
      | none => false
      | some d => decide (st.rateBound < d.natAbs))

/-- Whether the sample is released (R103). -/
def releasedSample (st : DriftSettings) (sv : Server) : Bool :=
  decide ((sv.fo.getD 0).natAbs ≤ releaseOf st.offsetBound) &&
    (match sv.drift with
      | none => true
      | some d => decide (d.natAbs ≤ releaseOf st.rateBound))

/-- The entry enters DRIFTING. -/
def Server.toDrifting (sv : Server) : Server := { sv with state := .drifting, run := 0 }

/-- An exceeding sample with `n` of them in a row: WATCH, or DRIFTING at the confirm count (R104,
R105). -/
def Server.watchRun (sv : Server) (st : DriftSettings) (n : Nat) : Server × Option ServerCause :=
  if st.confirm ≤ n then (sv.toDrifting, some .enterDrift)
  else ({ sv with state := .watch, run := n }, none)

/-- A released sample in DRIFTING (R106). -/
def Server.releaseRun (sv : Server) (st : DriftSettings) : Server × Option ServerCause :=
  if st.confirm ≤ sv.run + 1 then ({ sv with state := .inBound, run := 0 }, some .leaveDrift)
  else ({ sv with run := sv.run + 1 }, none)

/-- Evaluation of a sample, not held (R102 to R106). -/
def Server.evaluate (sv : Server) (st : DriftSettings) (wild completed : Bool) :
    Server × Option ServerCause :=
  match sv.state with
  | .probation =>
    if wild then (sv.toDrifting, some .gross)
    else if !completed then (sv, none)
    else if exceeding st sv then sv.watchRun st 1
    else ({ sv with state := .inBound, run := 0 }, none)
  | .inBound =>
    if wild then (sv.toDrifting, some .gross)
    else if exceeding st sv then sv.watchRun st 1
    else (sv, none)
  | .watch =>
    if wild then (sv.toDrifting, some .gross)
    else if exceeding st sv then sv.watchRun st (sv.run + 1)
    else if releasedSample st sv then ({ sv with state := .inBound, run := 0 }, none)
    else (sv, none)
  | .drifting =>
    if releasedSample st sv && !wild then sv.releaseRun st
    else ({ sv with run := 0 }, none)
  | .silent => (sv, none)

/-- The sample of a tracked query on its entry, steps 1 to 7 of R96. -/
def sampleServer (st : DriftSettings) (heldBack : Bool) (ing : Ingress) (ts : Stamp)
    (lastDelay : BitVec 32) (sv : Server) : Sample :=
  let sv := (sv.wake.book ing).reseed ing.epoch
  let o := offsetSample sv ts ing.stamp lastDelay
  let seeded := sv.fo.isNone
  let sv := sv.take o ing.stamp st.k
  let wild := decide (st.wildLimit < o.natAbs)
  let (sv, completed) := if seeded then (sv, false) else sv.windowStep ing.stamp st.w wild
  let (sv, cause) := if heldBack then (sv, none) else sv.evaluate st wild completed
  { server := sv, wild := wild, completed := completed, heldBack := heldBack, cause := cause }

/-- The DTR counters after a sample (R102, R103, R116). -/
def countSample (m : Sample) (c : DtrCounters) : DtrCounters :=
  { c with
    tracked := bump c.tracked
    wild := if m.wild then bump c.wild else c.wild
    windows := if m.completed then bump c.windows else c.windows
    heldEvaluations := if m.heldBack then bump c.heldEvaluations else c.heldEvaluations }

/-- The notice and the edges a sample calls for (R96 step 8, R110, R111). -/
def sampleOutputs (i : Nat) (old : Server) (m : Sample) (s : State) : State :=
  let warnBefore := warns s.dtr.settings.silentWarn old.state
  let woken := old.wake
  let warnWoken := warns s.dtr.settings.silentWarn woken.state
  let s := giveChange i warnBefore warnWoken old.select s
  let s := match m.cause with
    | none => s
    | some c => serverNotice i m.server (some woken.state) (some m.server.state) c s
  giveChange i warnWoken (warns s.dtr.settings.silentWarn m.server.state) old.select s

/-- A tracked query is processed on entry `i` (R96). -/
def sampleEntry (i : Nat) (ing : Ingress) (ts : Stamp) (lastDelay : BitVec 32) (s : State) : State :=
  match serverAt i s with
  | none => s
  | some sv =>
    let heldBack := decide ((quality s).code < 4)
    let m := sampleServer s.dtr.settings heldBack ing ts lastDelay sv
    let s := countDtr (countSample m) (setServer i (some m.server) s)
    recomputeMajority (sampleOutputs i sv m s)

/-- A new LEARNED entry (R93). -/
def learnedServer (a : Address) : Server := { address := a }

/-- A query is tracked or left untracked (R93, R96). -/
def trackQuery (src : Address) (ing : Ingress) (ts : Stamp) (lastDelay : BitVec 32) (s : State) :
    State :=
  match findServer src s with
  | some i => sampleEntry i ing ts lastDelay s
  | none =>
    let untracked := countDtr (fun c => { c with untracked := bump c.untracked }) s
    if admissible src && s.dtr.settings.autoLearn then
      match firstEmpty s with
      | none => untracked
      | some i =>
        let sv := learnedServer src
        let s := setServer i (some sv) s
        let s := countDtr (fun c => { c with admissions := bump c.admissions }) s
        let s := serverNotice i sv none (some .probation) .admitted s
        sampleEntry i ing ts lastDelay s
    else untracked

/-! ### Removal, silence and eviction -/

/-- A notice of entry `i` and the LEAVE edge of its condition, before the entry becomes EMPTY. -/
def clearServer (i : Nat) (sv : Server) (cause : ServerCause) (s : State) : State :=
  let s := serverNotice i sv (some sv.state) none cause s
  let s := giveChange i (warns s.dtr.settings.silentWarn sv.state) false sv.select s
  setServer i none s

/-- Entry `i` is removed other than by eviction, the majority not yet recomputed (R95). -/
def removeServer (i : Nat) (s : State) : State :=
  match serverAt i s with
  | none => s
  | some sv => clearServer i sv .removed s

/-- Whether an entry's age has reached a time in seconds (R107 to R109). -/
def aged (sv : Server) (seconds : Nat) (s : State) : Bool :=
  seconds * Config.ticksPerSecond ≤ elapsed s.rcu.uptime sv.lastQuery

/-- Entry `i` is evicted if it is a LEARNED SILENT one whose age has reached the eviction time, the
majority not yet recomputed (R108). -/
def evictIfDue (i : Nat) (s : State) : State :=
  match serverAt i s with
  | none => s
  | some sv =>
    if sv.state = .silent ∧ sv.pinned = false ∧ aged sv s.dtr.settings.evictionTime s then
      clearServer i sv .evicted (countDtr (fun c => { c with evictions := bump c.evictions }) s)
    else s

/-- Entry `i` becomes SILENT if its age has reached the silence timeout, and is evicted at once if it has
reached the eviction time too, the majority not yet recomputed (R107, R108). -/
def silenceIfDue (i : Nat) (s : State) : State :=
  match serverAt i s with
  | none => s
  | some sv =>
    if sv.state ≠ .silent ∧ aged sv s.dtr.settings.silenceTimeout s then
      let new := { sv with state := .silent, run := 0 }
      let s := countDtr (fun c => { c with silenced := bump c.silenced }) (setServer i (some new) s)
      let s := serverNotice i new (some sv.state) (some .silent) .silenced s
      let s := giveChange i (warns s.dtr.settings.silentWarn sv.state)
        (warns s.dtr.settings.silentWarn .silent) sv.select s
      evictIfDue i s
    else s

/-- The 48 indices in ascending order. -/
def serverIndices : List Nat := List.range 48

/-! ### Meanings -/

/-- SERVER_SILENCE (R107): entry `i`, older than the silence timeout, becomes SILENT. -/
def execServerSilence (i : Fin 48) (s : State) : Host.Outcome State Fault Refusal :=
  .next (finish (recomputeMajority (silenceIfDue i.val s)))

/-- SERVER_EVICTION (R108): entry `i`, LEARNED and SILENT for long enough, is evicted. -/
def execServerEviction (i : Fin 48) (s : State) : Host.Outcome State Fault Refusal :=
  .next (finish (recomputeMajority (evictIfDue i.val s)))

end Sys2Proof.Machine
end

