-- ==== Sys2Proof/Machine/Dating.lean ====
section
/-! DEFINITION. Storage event dating: the open exchange table, and the meanings of STORAGE_COMMAND_END,
STORAGE_COMPLETION_END and EXCHANGE_DEADLINE (7; R132 to R152). -/

namespace Sys2Proof.Machine

/-- The counters of a profile changed. -/
def countProfile (q : BitVec 3) (f : Profile → Profile) (s : State) : State :=
  { s with dte := { s.dte with profiles := s.dte.profiles.modify q.toNat f } }

/-- The settings of a profile. -/
def profileOf (q : BitVec 3) (s : State) : Profile := s.dte.profiles.getD q.toNat {}

/-- The entry at an index replaced. -/
def setExchange (i : Nat) (e : Option Exchange) (s : State) : State :=
  { s with dte := { s.dte with exchanges := s.dte.exchanges.set i e } }

/-- Whether an entry is OPEN with a key (R132, R135). -/
def holdsKey (key : ExchangeKey) : Option Exchange → Bool
  | none => false
  | some x => x.key == key

/-- The OPEN entry that holds a key: its index and contents (R137, R141). -/
def findExchange (key : ExchangeKey) (s : State) : Option (Nat × Exchange) :=
  match s.dte.exchanges.findIdx? (holdsKey key) with
  | none => none
  | some i =>
    match (s.dte.exchanges[i]?).join with
    | none => none
    | some x => some (i, x)

/-- The lowest-numbered FREE entry (R138). -/
def firstFree (s : State) : Option Nat := s.dte.exchanges.findIdx? Option.isNone

/-- The exchange key of a command (R132). -/
def commandKey (a : Arriving) : ExchangeKey :=
  { initiator := sourceAddress a.octets, flow := storageFlow a.settings a.octets
    tag := storageTag a.settings a.octets }

/-- The exchange key of a completion (R132). -/
def completionKey (a : Arriving) : ExchangeKey :=
  { initiator := destination a.octets, flow := storageFlow a.settings a.octets
    tag := storageTag a.settings a.octets }

/-- Whether a station is in scope: a server of the table, or a member of the hash set (R72). -/
def inScope (addr : Address) (s : State) : Bool :=
  (findServer addr s).isSome || s.mgu.station.hashSet.getLsbD (hashIndex addr)

/-- Whether the initiator's server table entry is DRIFTING (R140). -/
def initiatorDrifting (addr : Address) (s : State) : Bool :=
  match findServer addr s with
  | none => false
  | some i =>
    match serverAt i s with
    | none => false
    | some sv => sv.state == .drifting

/-- The entry that a command opens or takes over (R135, R138, R140). -/
def openedExchange (a : Arriving) (q : BitVec 3) (s : State) : Exchange :=
  { key := commandKey a
    op := BitVec.ofNat 8 (storageOp a.settings a.octets)
    profile := q
    stamp := a.ingress.stamp
    quality := a.ingress.quality
    epoch := a.ingress.epoch
    drifting := initiatorDrifting (commandKey a).initiator s
    deadline := after a.ingress.uptime ((profileOf q s).timeout * Config.ticksPerSecond) }

/-- The EXCHANGE record of an exchange closed by timeout or reuse (R147). -/
def unansweredRecord (x : Exchange) (outcome : ExchangeOutcome) (s : State) : Record :=
  { quality := x.quality
    stepped := s.rcu.epoch != x.epoch
    drifting := x.drifting
    date := x.stamp
    body := .exchange x.key x.op 0xFF outcome (BitVec.allOnes 32) }

/-- The latency of a completed exchange (R142). -/
def latency (x : Exchange) (ing : Ingress) : BitVec 32 :=
  if ing.epoch = x.epoch then
    BitVec.ofNat 32 (clampInt 0 4294967294 (ing.stamp.nanos - x.stamp.nanos)).toNat
  else BitVec.allOnes 32

/-- The EXCHANGE record of a completed exchange (R143). -/
def completedRecord (x : Exchange) (ing : Ingress) (status : Byte) : Record :=
  { quality := x.quality.lower ing.quality
    stepped := ing.epoch != x.epoch
    drifting := x.drifting
    date := x.stamp
    body := .exchange x.key x.op status .completed (latency x ing) }

/-- A command shown to DTE with a profile (R136 to R140). -/
def dateCommand (a : Arriving) (q : BitVec 3) (s : State) : State :=
  if s.rrg.pressure && (profileOf q s).sheddable then
    countProfile q (fun c => { c with shed := bump c.shed }) s
  else
    match findExchange (commandKey a) s with
    | some (i, old) =>
      let s := setExchange i (some (openedExchange a q s)) s
      let s := countProfile old.profile (fun c => { c with reused := bump c.reused }) s
      let s := countProfile q (fun c => { c with dated := bump c.dated }) s
      offer (unansweredRecord old .reused s) s
    | none =>
      match firstFree s with
      | some i =>
        countProfile q (fun c => { c with dated := bump c.dated })
          (setExchange i (some (openedExchange a q s)) s)
      | none => countProfile q (fun c => { c with undated := bump c.undated }) s

/-- A storage command ends good: it is walked, and in scope under a DATE entry it is shown to DTE (R66,
R72, R133). -/
def takeCommand (a : Arriving) (s : State) : State :=
  let (s, profile) := datingWalk (storageKey a.settings a.octets) s
  match profile with
  | none => s
  | some q => if inScope (sourceAddress a.octets) s then dateCommand a q s else s

/-- A storage completion ends good: it closes the exchange of its key, or its profile walk charges it as
unmatched (R71, R141, R144). -/
def takeCompletion (a : Arriving) (s : State) : State :=
  match findExchange (completionKey a) s with
  | some (i, x) =>
    let s := setExchange i none s
    let s := countProfile x.profile (fun c => { c with completed := bump c.completed }) s
    offer (completedRecord x a.ingress (storageStatus a.settings a.octets)) s
  | none =>
    let (s, profile) := datingWalk (storageKey a.settings a.octets) s
    match profile with
    | none => s
    | some q => countProfile q (fun c => { c with unmatched := bump c.unmatched }) s

/-- Whether an entry is OPEN with this deadline. -/
def dueAt (deadline : Uptime) : Option Exchange → Bool
  | none => false
  | some x => x.deadline == deadline

/-- The OPEN entries with this deadline, in ascending entry number (R145). -/
def dueExchanges (deadline : Uptime) (s : State) : List Exchange :=
  s.dte.exchanges.filterMap fun e => if dueAt deadline e then e else none

/-- Every OPEN entry with this deadline becomes FREE (R145). -/
def freeDue (deadline : Uptime) (s : State) : State :=
  { s with dte := { s.dte with
    exchanges := s.dte.exchanges.map fun e => if dueAt deadline e then none else e } }

/-- The exchanges with this deadline time out in one expiry: all their entries become FREE and are
counted, and then their records are offered in ascending entry number (R145, R152). -/
def expireDeadline (deadline : Uptime) (s : State) : State :=
  let due := dueExchanges deadline s
  let s := freeDue deadline s
  let s := due.foldl
    (fun s x => countProfile x.profile (fun c => { c with timedOut := bump c.timedOut }) s) s
  due.foldl (fun s x => offer (unansweredRecord x .timedOut s) s) s

/-! ### Meanings -/

/-- STORAGE_COMMAND_END (R133). -/
def execStorageCommandEnd (p : Port) (flow : Flow) (s : State) : Host.Outcome State Fault Refusal :=
  .next (finish (endsGood p flow (fun c => c == .storageCommand) takeCommand s))

/-- STORAGE_COMPLETION_END (R71). -/
def execStorageCompletionEnd (p : Port) (flow : Flow) (s : State) :
    Host.Outcome State Fault Refusal :=
  .next (finish (endsGood p flow (fun c => c == .storageCompletion) takeCompletion s))

/-- EXCHANGE_DEADLINE (R145): uptime has reached the deadline, so the exchanges that hold it close. -/
def execExchangeDeadline (deadline : Uptime) (s : State) : Host.Outcome State Fault Refusal :=
  if reached s.rcu.uptime deadline then .next (finish (expireDeadline deadline s)) else .next s

end Sys2Proof.Machine
end

