-- ==== Sys2Proof/Machine/Answering.lean ====
section
/-! DEFINITION. Answering the rack: the walk of a QUERY, the claim of an answer slot, the ANSWER frame, and
the meaning of QUERY_END (3.7, 4; R64 to R70, R76 to R87). -/

namespace Sys2Proof.Machine

/-- The outcome of a QUERY's walk (R65, R68, R69): a slot claimed by a filter, an overrun charged to a
slot, or a drop as unclassified, by a PASS entry or by none. -/
inductive QueryWalk
  | claim (filter : Nat) (slot : Nat)
  | overrun (slot : Nat)
  | dropped (passFilter : Option Nat)
deriving DecidableEq, Repr

/-- The walk of a QUERY for the part, from filter number `i` on, with the slot of the busy ANSWER match if
one was passed over (R65 to R69). -/
def walkQuery (masks : List (BitVec 32)) (busy : Nat → Bool) (key : BitVec 32) :
    List Filter → Nat → Option Nat → QueryWalk
  | [], _, none => .dropped none
  | [], _, some m => .overrun m
  | f :: fs, i, passed =>
    if f.covers masks key then
      match f.action with
      | .pass => .dropped (some i)
      | .answer =>
        if busy f.target.toNat then
          walkQuery masks busy key fs (i + 1) (passed <|> some f.target.toNat)
        else .claim i f.target.toNat
      | .date => walkQuery masks busy key fs (i + 1) passed
      | .transit => walkQuery masks busy key fs (i + 1) passed
    else walkQuery masks busy key fs (i + 1) passed

/-- Whether an answer slot is FILLED or SENDING. -/
def slotBusy (s : State) (n : Nat) : Bool := ((s.anu.slots.getD n {}).answer).isSome

/-- The slot at a number changed. -/
def changeSlot (n : Nat) (f : Slot → Slot) (s : State) : State :=
  { s with anu := { s.anu with slots := s.anu.slots.modify n f } }

/-- Ts of a QUERY (12.1.2). -/
def querySendTime (a : Arriving) : Stamp := stampAt (bodyAt a.settings a.octets) a.octets

/-- The last-delay field of a QUERY (12.1.2). -/
def queryLastDelay (a : Arriving) : BitVec 32 :=
  BitVec.ofNat 32 (field (bodyAt a.settings a.octets + 10) 4 a.octets)

/-- Whether a query is served under the answer floor (R80). -/
def isServed (a : Arriving) (s : State) : Bool := s.anu.floor.code ≤ a.ingress.quality.code

/-- The contents a slot takes at the claim (R76, R77, R80, R81). -/
def claimedAnswer (p : Port) (a : Arriving) (s : State) : Answer :=
  { requester := sourceAddress a.octets
    port := p
    tag := tagOf a.settings a.octets
    domain := gtpDomain a.settings a.octets
    seq := gtpSequence a.settings a.octets
    ts := querySendTime a
    t2 := a.ingress.stamp
    epoch := a.ingress.epoch
    quality := a.ingress.quality
    uncertainty := uncertainty s
    served := isServed a s
    own := s.mgu.station.own
    timeType := s.mgu.station.timeType
    rackId := s.mgu.station.rackId }

/-- The walk claims slot `n` for the query (R68, R77, R80). -/
def claimSlot (n : Nat) (p : Port) (a : Arriving) (s : State) : State :=
  changeSlot n (fun sl => { sl with
    answer := some (claimedAnswer p a s)
    unserved := if isServed a s then sl.unserved else bump sl.unserved }) s

/-- ANU completes a claimed slot with the requester's tracking state (R78). -/
def completeSlot (n : Nat) (requester : Address) (s : State) : State :=
  match findServer requester s with
  | none => s
  | some i =>
    match serverAt i s with
    | none => s
    | some sv =>
      changeSlot n (fun sl => { sl with
        answer := sl.answer.map fun ans => { ans with
          serverIndex := BitVec.ofNat 8 i, serverState := some sv.state, fo := sv.fo.getD 0 } }) s

/-- An overrun is charged to slot `m` and to the arrival port (R69, R85). -/
def chargeOverrun (m : Nat) (p : Port) (s : State) : State :=
  changeSlot m (fun sl => { sl with overruns := bump sl.overruns, overrunFlag := true })
    (s.countIngress p fun c => { c with overruns := bump c.overruns })

/-- DTR takes the query (R70 step 2). -/
def trackArrived (a : Arriving) (s : State) : State :=
  trackQuery (sourceAddress a.octets) a.ingress (querySendTime a) (queryLastDelay a) s

/-- The walk of the query that ends on a port (R64). -/
def queryWalk (a : Arriving) (s : State) : QueryWalk :=
  walkQuery s.fcl.masks (slotBusy s) (gtpKey a.settings a.octets) s.fcl.filters 0 none

/-- The effect of a well-formed QUERY for the part that ends good (R70): the walk, DTR's processing, the
completion of the slot and the queuing of its ANSWER entry. -/
def takeQuery (p : Port) (a : Arriving) (s : State) : State :=
  match queryWalk a s with
  | .claim i n =>
    let s := trackArrived a (claimSlot n p a (countHit i s))
    queueAnswer n p (completeSlot n (sourceAddress a.octets) s)
  | .overrun m => trackArrived a (chargeOverrun m p s)
  | .dropped hit =>
    let s := match hit with
      | none => s
      | some i => countHit i s
    s.countIngress p fun c => { c with unclassified := bump c.unclassified }

/-- The body of an ANSWER (12.1.2): t2 and t3 are zero when unserved (R80). -/
def answerBody (ans : Answer) (t3 : Stamp) : List Byte :=
  ans.ts.octets ++ (if ans.served then ans.t2 else {}).octets ++ t3.octets ++ be 1 ans.quality.code ++
    be 4 ans.uncertainty.toNat ++ be 2 ans.rackId.toNat ++ be 1 ans.serverIndex.toNat ++
    be 1 (serverCode ans.serverState) ++ beInt 4 ans.fo

/-- The flags octet of an ANSWER: UNSERVED in bit 0, STEPPED in bit 1 (R81, R82, 12.1.1). -/
def answerFlags (ans : Answer) (epoch : Epoch) : Nat :=
  (if ans.served then 0 else 1) + (if epoch = ans.epoch then 0 else 2)

/-- The ANSWER frame that leaves with these t3 and egress epoch (R81, R82). -/
def answerFrame (ans : Answer) (t3 : Stamp) (epoch : Epoch) : List Byte :=
  gtpFrame ans.requester ans.own ans.tag ans.timeType 2 ans.domain (answerFlags ans epoch) ans.seq
    (answerBody ans t3)

/-- QUERY_END (R70): a well-formed QUERY for the part ends good. -/
def execQueryEnd (p : Port) (flow : Flow) (s : State) : Host.Outcome State Fault Refusal :=
  .next (finish (endsGood p flow (fun c => c == .query) (takeQuery p) s))

end Sys2Proof.Machine
end

