-- ==== Sys2Proof/Machine/Discipline.lean ====
section
/-! DEFINITION. Upstream discipline: misses and holdover, the probe's frame, the servo, and the meanings
of ECHO_END, PROBE_TIMER_EXPIRY, GROWTH_TIMER_EXPIRY and PHASE_TIMER_EXPIRY (2; R4, R22 to R46). -/

namespace Sys2Proof.Machine

/-- The DSE counters changed. -/
def countDse (f : DseCounters → DseCounters) (s : State) : State :=
  { s with dse := { s.dse with ctr := f s.dse.ctr } }

/-! ### Writing F and S (R2 to R4) -/

/-- DSE writes F and S together, recomputing A and K once and starting a phase window (R4, R40). -/
def writeServo (f s' : Int) (s : State) : State :=
  recomputeRate { s with rcu := { s.rcu with
    f := clampInt (-Config.rateLimit) Config.rateLimit f
    s := s'
    phaseTimer := some (after s.rcu.uptime (probeTicks s.dse.settings.p)) } }

/-- DSE sets S to 0 outside the servo, with F as given: the phase timer stops (R4). -/
def withdrawPhase (f : Int) (s : State) : State :=
  recomputeRate { s with rcu := { s.rcu with
    f := clampInt (-Config.rateLimit) Config.rateLimit f
    s := 0
    phaseTimer := none } }

/-! ### Holdover and free run (R44, R45) -/

/-- DSE reaches free run (R45). -/
def reachFreerun (s : State) : State :=
  let s := { s with dse := { s.dse with growthTimer := none } }
  let s := setDState .freerun s
  let s := latch 50 s
  rackNotice .freerun .holdover .freerun s.dse.u.toNat s

/-- U is compared with the holdover limit (R45). -/
def testHoldoverLimit (s : State) : State :=
  if s.dse.settings.holdoverLimit < s.dse.u.toNat then reachFreerun s else s

/-- The rate holdover runs on: the mean of the rate history, or F in force if it is empty (R44). -/
def learnedRate (s : State) : Int :=
  if s.dse.history.isEmpty then s.rcu.f else roundMean s.dse.history

/-- DSE enters HOLDOVER (R44). An absent last offset, which no run brings to LOCKED, counts as 0
(assumption 16). -/
def enterHoldover (s : State) : State :=
  let rate := learnedRate s
  let s := withdrawPhase rate s
  let s := { s with dse := { s.dse with
    holdoverRate := rate
    u := saturate32 (s.dse.lastOffset.getD 0).natAbs
    growthTimer := some (after s.rcu.uptime Config.ticksPerSecond) } }
  testHoldoverLimit (setDState .holdover s)

/-- A miss (R34). -/
def miss (s : State) : State :=
  let run := bump s.dse.missRun
  let s := { s with dse := { s.dse with
    missRun := run
    ctr := { s.dse.ctr with misses := bump s.dse.ctr.misses } } }
  if s.dse.state = .locked ∧ s.dse.settings.missLimit ≤ run.toNat then enterHoldover s else s

/-! ### The probe's frame (R26 to R28) -/

/-- The probe with this sequence, if still outstanding, is invalidated and counted as a miss (R27). -/
def loseOutstanding (seq : Seq) (s : State) : State :=
  match s.dse.outstanding with
  | none => s
  | some o =>
    if o.seq = seq then miss { s with dse := { s.dse with outstanding := none } } else s

/-- A PROBE frame is queued to its port, or dropped at once if the link is DOWN (R26, R27, R197). -/
def queueProbe (f : ProbeFrame) (s : State) : State :=
  if (s.port f.port).link then
    pushEntry f.port .probe { s with dse := { s.dse with frame := some f } }
  else
    let s := countDse (fun c => { c with probesDropped := bump c.probesDropped }) (countDrop f.port s)
    loseOutstanding f.seq s

/-- A held probe enters its queue once the previous probe's frame has ended or been dropped (R26). -/
def releaseHeld (s : State) : State :=
  match s.dse.held with
  | none => s
  | some f => queueProbe f { s with dse := { s.dse with held := none } }

/-- EGM tells DSE that the PROBE frame was dropped (R27). -/
def probeDropped (s : State) : State :=
  match s.dse.frame with
  | none => s
  | some f =>
    let s := { s with dse := { s.dse with frame := none } }
    let s := countDse (fun c => { c with probesDropped := bump c.probesDropped }) s
    releaseHeld (loseOutstanding f.seq s)

/-- EGM tells DSE that the PROBE frame has left (R27). -/
def probeEnded (s : State) : State :=
  let s := { s with dse := { s.dse with frame := none } }
  releaseHeld (countDse (fun c => { c with probesSent := bump c.probesSent }) s)

/-- The PROBE frame that the part builds now, t1 still zero (R26, 12.1.2). -/
def probeFrame (s : State) : ProbeFrame :=
  { seq := s.dse.nextSeq
    port := s.mgu.station.timeServerPort
    octets := gtpFrame s.mgu.station.timeServer s.mgu.station.own none s.mgu.station.timeType 3
      s.dse.settings.probeDomain 0 s.dse.nextSeq (be 10 0) }

/-- Whether the egress of the PROBE frame has begun and not ended. -/
def probeInEgress (s : State) : Bool :=
  match s.dse.frame with
  | none => false
  | some f => (s.port f.port).queue.any fun e => e.source == .probe && e.inEgress

/-- DSE withdraws the previous probe's frame, still QUEUED, from its queue (R26, R190). -/
def withdrawProbe (s : State) : State :=
  match s.dse.frame with
  | none => s
  | some f =>
    let e := s.port f.port
    { s.setPort f.port { e with queue := e.queue.filter fun x => x.source != .probe } with
      dse := { s.dse with frame := none } }

/-- DSE builds a PROBE, which becomes the outstanding probe, and queues or holds it (R26). -/
def buildProbe (s : State) : State :=
  let f := probeFrame s
  let wait := probeInEgress s
  let s := if wait then s else withdrawProbe s
  let s := { s with dse := { s.dse with
    nextSeq := s.dse.nextSeq + 1
    outstanding := some { seq := f.seq, port := f.port, sent := none }
    held := if wait then some f else none } }
  if wait then s else queueProbe f s

/-- A probe still outstanding at an expiry is counted as a miss (R26 step 1). A held probe is the
outstanding probe and ends with it (assumption 7). -/
def missOutstanding (s : State) : State :=
  if s.dse.outstanding.isSome then
    miss { s with dse := { s.dse with outstanding := none, held := none } }
  else s

/-- The probe timer reloads itself for one interval at the p in force (R25). -/
def reloadProbeTimer (s : State) : State :=
  { s with dse := { s.dse with
    probeTimer := s.dse.probeTimer.map fun t => after t (probeTicks s.dse.settings.p) } }

/-- Without a time server address no probe is built, the previous frame still QUEUED is withdrawn, and
the expiry counts as a miss (R26 steps 2 and 3). -/
def unsentProbe (s : State) : State :=
  let s := if probeInEgress s then s else withdrawProbe s
  miss (countDse (fun c => { c with probesUnsent := bump c.probesUnsent }) s)

/-- What an expiry of the probe timer does (R25, R26). -/
def probeExpiry (s : State) : State :=
  let s := missOutstanding (reloadProbeTimer s)
  if s.mgu.station.timeServer = 0 then unsentProbe s else buildProbe s

/-! ### The servo (2.3 to 2.6) -/

/-- The four stamps of an exchange and the server quality octet (R29, R30). -/
structure EchoFields where
  t1 : Stamp
  t2 : Stamp
  t3 : Stamp
  serverQuality : Nat

/-- The fields of an ECHO (12.1.2). -/
def echoFields (a : Arriving) : EchoFields :=
  let b := bodyAt a.settings a.octets
  { t1 := stampAt b a.octets, t2 := stampAt (b + 10) a.octets, t3 := stampAt (b + 20) a.octets
    serverQuality := field (b + 30) 1 a.octets }

/-- Whether an ECHO is matched at its end, and with which t1 (R29). -/
def matchEcho (a : Arriving) (s : State) : Option Stamp :=
  match s.dse.outstanding with
  | none => none
  | some o =>
    match o.sent with
    | none => none
    | some (t1, epoch) =>
      if sourceAddress a.octets = s.mgu.station.timeServer ∧
          destination a.octets = s.mgu.station.own ∧
          gtpSequence a.settings a.octets = o.seq ∧
          (echoFields a).t1 = t1 ∧ a.ingress.epoch = epoch then some t1
      else none

/-- A signed value saturated to plus or minus 2^63 - 1 (R31). -/
def saturate64 (v : Int) : Int := clampInt (-(2 ^ 63 - 1)) (2 ^ 63 - 1) v

/-- The one-way delay of an exchange (R31). -/
def exchangeDelay (t1 t2 t3 t4 : Stamp) : Int :=
  saturate64 (halve ((t4.nanos - t1.nanos) - (t3.nanos - t2.nanos)))

/-- The offset of an exchange: how far rack time is ahead of the server's time (R31). -/
def exchangeOffset (t1 t2 t3 t4 : Stamp) : Int :=
  saturate64 (halve ((t1.nanos - t2.nanos) + (t4.nanos - t3.nanos)))

/-- The delay window with a delay appended, the oldest of 8 leaving it (R33). -/
def pushDelay (w : List Nat) (d : Nat) : List Nat := (if 8 ≤ w.length then w.tail else w) ++ [d]

/-- The smallest delay of the window (R33). -/
def smallestDelay : List Nat → Option Nat
  | [] => none
  | d :: ds => some (ds.foldl min d)

/-- Whether an exchange of delay `d` is gated out (R33). -/
def gatedOut (w : List Nat) (gate d : Nat) : Bool :=
  8 ≤ w.length && (match smallestDelay w with
    | none => false
    | some m => m + gate < d)

/-- DSE requests a step of rack time by `n` ns, clamped at the ends of the range (R11, R37). -/
def dseStep (n : Int) (s : State) : State :=
  let target := clampInt 0 lastNano ((s.rcu.time.nanos : Int) + n)
  applyStep target.toNat (countDse (fun c => { c with dseSteps := bump c.dseSteps }) s)

/-- F is pushed onto the rate history, after the rate-jump test (R43). -/
def pushHistory (s : State) : State :=
  let f := s.rcu.f
  let jump := !s.dse.history.isEmpty &&
    decide (s.dse.settings.rateJumpLimit < (f - roundMean s.dse.history).natAbs)
  let s := if jump then
      rackNotice .rateJump .locked .locked f
        (latch 52 (countDse (fun c => { c with rateJumps := bump c.rateJumps }) s))
    else s
  { s with dse := { s.dse with history := (f :: s.dse.history).take 4 } }

/-- The lock count advances, and every sixteenth exchange pushes F (R43). -/
def advanceLock (s : State) : State :=
  let n := bump s.dse.lockCount
  let s := { s with dse := { s.dse with lockCount := n } }
  if n.toNat % 16 = 0 then pushHistory s else s

/-- The new frequency term before its clamp (R39). -/
def nextFrequency (thetaC : Int) (s : State) : Int :=
  s.rcu.f - roundShift (thetaC * 1000) (s.dse.settings.p + s.dse.settings.gi)

/-- The new phase term (R40). -/
def nextPhase (thetaC : Int) (s : State) : Int :=
  -roundShift (thetaC * 1000) (s.dse.settings.p + s.dse.settings.gp)

/-- F and S are computed from θc and written together (R39, R40). -/
def slew (thetaC : Int) (s : State) : State :=
  let f := nextFrequency thetaC s
  let phase := nextPhase thetaC s
  let s := if f < -Config.rateLimit ∨ Config.rateLimit < f then
      countDse (fun c => { c with rateLimits := bump c.rateLimits }) s
    else s
  writeServo f phase s

/-- The lock-in run after a slew in ACQUIRE (R41). -/
def lockIn (theta : Int) (s : State) : State :=
  let run := if theta.natAbs ≤ s.dse.settings.lockWindow then bump s.dse.lockInRun else 0
  let s := { s with dse := { s.dse with lockInRun := run } }
  if 4 ≤ run.toNat then
    let s := setDState .locked s
    { s with dse := { s.dse with lockInRun := 0, unlockRun := 0, lockCount := 0 } }
  else s

/-- The unlock run after a slew in LOCKED (R42). -/
def unlock (theta : Int) (s : State) : State :=
  let run := if s.dse.settings.unlockThreshold < theta.natAbs then bump s.dse.unlockRun else 0
  let s := { s with dse := { s.dse with unlockRun := run } }
  if 3 ≤ run.toNat then
    let s := setDState .acquire s
    { s with dse := { s.dse with unlockRun := 0, lockInRun := 0 } }
  else s

/-- An accepted exchange in ACQUIRE (R37, R41). -/
def acquireExchange (theta : Int) (s : State) : State :=
  if s.dse.settings.stepThreshold < theta.natAbs then
    let s := dseStep (-theta) s
    { s with dse := { s.dse with lockInRun := 0 } }
  else lockIn theta (slew theta s)

/-- An accepted exchange in LOCKED (R38, R42, R43). -/
def lockedExchange (theta : Int) (s : State) : State :=
  let limit := s.dse.settings.stepThreshold
  if limit < theta.natAbs then
    if s.dse.settings.stepInLock then
      let s := setDState .acquire (dseStep (-theta) s)
      { s with dse := { s.dse with lockInRun := 0, unlockRun := 0 } }
    else
      let s := countDse (fun c => { c with offsetClamps := bump c.offsetClamps }) s
      unlock theta (advanceLock (slew (clampInt (-limit) limit theta) s))
  else unlock theta (advanceLock (slew theta s))

/-- An accepted exchange in HOLDOVER or FREERUN first returns to ACQUIRE (R36). -/
def returnFromHoldover (s : State) : State :=
  if s.dse.state.unlocked then
    setDState .acquire { s with dse := { s.dse with growthTimer := none } }
  else s

/-- An accepted exchange with offset θ (R35). In IDLE no exchange is accepted. -/
def acceptExchange (theta : Int) (s : State) : State :=
  let s := { s with dse := { s.dse with
    ctr := { s.dse.ctr with echoesAccepted := bump s.dse.ctr.echoesAccepted }
    missRun := 0
    lastOffset := some theta } }
  let s := returnFromHoldover s
  match s.dse.state with
  | .acquire => acquireExchange theta s
  | .locked => lockedExchange theta s
  | .idle | .holdover | .freerun => s

/-- A screened exchange is gated against the delay window (R33). -/
def gateExchange (delay theta : Int) (s : State) : State :=
  let d := delay.toNat
  let out := gatedOut s.dse.window s.dse.settings.gate d
  let s := { s with dse := { s.dse with window := pushDelay s.dse.window d } }
  if out then miss (countDse (fun c => { c with gated := bump c.gated }) s)
  else acceptExchange theta s

/-- The delay screen (R32). -/
def screenDelay (delay theta : Int) (s : State) : State :=
  if delay < 0 ∨ (s.dse.settings.delayCeiling : Int) < delay then
    miss (countDse (fun c => { c with delayRejects := bump c.delayRejects }) s)
  else gateExchange delay theta s

/-- A matched echo is screened before any arithmetic (R30, R31). -/
def screenEcho (e : EchoFields) (t1 t4 : Stamp) (s : State) : State :=
  if 999999999 < e.t2.ns.toNat ∨ 999999999 < e.t3.ns.toNat then
    miss (countDse (fun c => { c with echoStampFaults := bump c.echoStampFaults }) s)
  else if e.serverQuality ≠ 4 then
    miss (countDse (fun c => { c with upstreamUnlocked := bump c.upstreamUnlocked }) s)
  else
    screenDelay (exchangeDelay t1 e.t2 e.t3 t4) (exchangeOffset t1 e.t2 e.t3 t4) s

/-- DSE is handed an ECHO for the part (R29). -/
def takeEcho (a : Arriving) (s : State) : State :=
  match matchEcho a s with
  | none => countDse (fun c => { c with staleEchoes := bump c.staleEchoes }) s
  | some t1 =>
    screenEcho (echoFields a) t1 a.ingress.stamp
      { s with dse := { s.dse with outstanding := none } }

/-! ### Meanings -/

/-- ECHO_END (R29, R60): an ECHO for the part ends good and is matched or counted stale. -/
def execEchoEnd (p : Port) (flow : Flow) (s : State) : Host.Outcome State Fault Refusal :=
  .next (finish (endsGood p flow (fun c => c == .echo) takeEcho s))

/-- PROBE_TIMER_EXPIRY (R25, R26): if the timer's expiry uptime has been reached, it expires once. -/
def execProbeTimerExpiry (s : State) : Host.Outcome State Fault Refusal :=
  if timerReached s.rcu.uptime s.dse.probeTimer then .next (finish (probeExpiry s)) else .next s

/-- What an expiry of the growth timer does (R45). -/
def growthExpiry (s : State) : State :=
  testHoldoverLimit { s with dse := { s.dse with
    u := addCount s.dse.u s.dse.settings.holdoverBound
    growthTimer := s.dse.growthTimer.map fun t => after t Config.ticksPerSecond } }

/-- GROWTH_TIMER_EXPIRY (R45): in HOLDOVER, U grows by H and DSE may enter FREERUN. -/
def execGrowthTimerExpiry (s : State) : Host.Outcome State Fault Refusal :=
  if timerReached s.rcu.uptime s.dse.growthTimer && s.dse.state == .holdover then
    .next (finish (growthExpiry s))
  else .next s

/-- PHASE_TIMER_EXPIRY (R4): S becomes 0, A and K are recomputed from F alone, and the timer stops. -/
def execPhaseTimerExpiry (s : State) : Host.Outcome State Fault Refusal :=
  if timerReached s.rcu.uptime s.rcu.phaseTimer then
    .next (recomputeRate { s with rcu := { s.rcu with s := 0, phaseTimer := none } })
  else .next s

end Sys2Proof.Machine
end

