-- ==== Sys2Proof/Machine/Resets.lean ====
section
/-! DEFINITION. Soft reset, hard reset and boot, and the meanings of HARD_RESET, RESET_INPUT_RELEASE,
BOOT_READ_END and BOOT_READ_TIMEOUT (R20, R21, R50, R51, R75, R88, R117, R131, R157, R176, R186, R199,
R205, R211 to R215). -/

namespace Sys2Proof.Machine

/-- The copy of the frame in egress when sending is cut off: the octets that left, then a forced bad check
sequence (R199). -/
def Egm.cutOff (e : Egm) : Option Departed :=
  match e.egress with
  | none => e.departed
  | some (.pass residence sent) =>
    let octets := match e.buffer with
      | [] => []
      | f :: _ => passOctets f residence
    some (departAs .forcedBad (octets.take sent))
  | some (.own _ octets sent) => some (departAs .forcedBad (octets.take sent))

/-- An EGM after either reset: the link state is the port's own (R195, R199). -/
def Egm.afterReset (e : Egm) : Egm := { link := e.link, departed := e.cutOff }

/-- RCU after soft reset (R21). -/
def Rcu.softReset (r : Rcu) : Rcu :=
  let a := appliedRate r.f 0
  { r with s := 0, a := a, k := increment a, phaseTimer := none, pulseFloor := .lock
           pulse := false, pulseTimer := none }

/-- The station settings after soft reset: the boot-derived ones are kept (R205, R212). -/
def Station.softReset (t : Station) : Station :=
  { own := t.own, manager := t.manager, rackId := t.rackId, timeType := t.timeType
    storageType := t.storageType }

/-- MGU after soft reset (R212). -/
def Mgu.softReset (m : Mgu) : Mgu :=
  { reading := m.reading, readSince := m.readSince, bootFault := m.bootFault
    station := m.station.softReset }

/-- Soft reset, as one effect over the whole part (R211): what no chapter keeps takes its reset value, and
the report timer runs from the reset (R186). -/
def softReset (s : State) : State :=
  { rcu := s.rcu.softReset
    dse := { history := s.dse.history }
    rpe := { timer := some (after s.rcu.uptime (1000 * Config.ticksPerMs)) }
    egm := ⟨s.egm.u.afterReset, s.egm.k.afterReset⟩
    mgu := s.mgu.softReset
    resetHeld := s.resetHeld
    serial := s.serial
    pending := s.pending }

/-- Hard reset: every block takes its hard-reset values, the boot state is READING and both ports are
TRANSPARENT; the link states are the ports' own (R195, R199, R213). DESIGN CHOICE (assumption 23): a frame that
is arriving is forgotten with the buffers, and its octets still to come are received and dropped, uncounted, as
R75 says for soft reset; no rule says it for hard reset. -/
def hardReset (s : State) : State :=
  { State.reset with
    egm := ⟨s.egm.u.afterReset, s.egm.k.afterReset⟩
    serial := s.serial
    pending := s.pending }

/-- Whether the boot read is in progress (R213). -/
def bootReading (s : State) : Bool := s.mgu.reading && s.mgu.readSince.isSome

/-- Whether the boot record is good (R214). -/
def bootRecordGood (o : List Byte) : Bool :=
  o.length == 32 && field 0 1 o == 0x47 && field 1 1 o == 0x48 && field 2 1 o == 1 &&
    field 21 2 o == ((o.take 21).map BitVec.toNat).sum % 65536

/-- The settings taken from a good boot record (R214, 12.7): an own station address with the group bit is
taken as zero. -/
def bootSettings (o : List Byte) (t : Station) : Station :=
  let own : Address := BitVec.ofNat 48 (field 3 6 o)
  { t with
    own := if isGroup own then 0 else own
    manager := BitVec.ofNat 48 (field 9 6 o)
    rackId := BitVec.ofNat 16 (field 15 2 o)
    timeType := BitVec.ofNat 16 (field 17 2 o)
    storageType := BitVec.ofNat 16 (field 19 2 o) }

/-- The default settings (R214). -/
def bootDefaults (t : Station) : Station :=
  { t with own := 0, manager := 0, rackId := 0, timeType := 0x9C5E, storageType := 0x9C5F }

/-- The settings have been taken: the boot state becomes DONE, so both ports become ACTIVE (R215). -/
def bootDone (fault : Bool) (t : Station) (s : State) : State :=
  { s with mgu := { s.mgu with reading := false, readSince := none, bootFault := fault, station := t } }

/-- MGU judges the record at the end of the read (R214). -/
def judgeBoot (reply : BootReply) (s : State) : State :=
  match reply with
  | .noReply => bootDone true (bootDefaults s.mgu.station) s
  | .octets o =>
    if bootRecordGood o then bootDone false (bootSettings o s.mgu.station) s
    else bootDone true (bootDefaults s.mgu.station) s

/-- Whether 50 ms have passed since the read began (R213). -/
def bootTimedOut (s : State) : Bool :=
  match s.mgu.readSince with
  | none => false
  | some u => Config.bootTimeoutTicks ≤ elapsed s.rcu.uptime u

/-! ### Meanings -/

/-- HARD_RESET (R213): power-on, or the reset input is asserted. -/
def execHardReset (s : State) : Host.Outcome State Fault Refusal := .next (hardReset s)

/-- RESET_INPUT_RELEASE (R213): MGU begins the one read of the boot record. -/
def execResetInputRelease (s : State) : Host.Outcome State Fault Refusal :=
  if s.resetHeld then
    .next { s with resetHeld := false, mgu := { s.mgu with readSince := some s.rcu.uptime } }
  else .next s

/-- BOOT_READ_END (R214): the read ends, and MGU judges the record. -/
def execBootReadEnd (reply : BootReply) (s : State) : Host.Outcome State Fault Refusal :=
  if bootReading s then .next (judgeBoot reply s) else .next s

/-- BOOT_READ_TIMEOUT (R213): the read has not ended in 50 ms and ends as no reply. -/
def execBootReadTimeout (s : State) : Host.Outcome State Fault Refusal :=
  if bootReading s && bootTimedOut s then .next (judgeBoot .noReply s) else .next s

end Sys2Proof.Machine
end

