-- ==== Sys2Proof/Machine/Merge.lean ====
section
/-! DEFINITION. The egress merge: the arbiter's choice, egress start and end, link loss and link up, and
the meanings of PASS_THROUGH_READY, FRAME_BOUNDARY, EGRESS_END, LINK_LOSS and LINK_UP (10; R27, R82 to
R84, R126, R127, R183, R184, R187 to R199, R208). -/

namespace Sys2Proof.Machine

/-! ### The arbiter (10.3) -/

/-- Whether an entry is an ANSWER or a PROBE, which go before all other frames (R191 case 1). -/
def Source.urgent : Source → Bool
  | .slot _ => true
  | .probe => true
  | .response => false
  | .alert => false
  | .report => false

/-- What the arbiter lets go: the head pass-through frame, or the entry of a source. -/
inductive Choice
  | pass
  | entry (source : Source)
deriving DecidableEq, Repr

/-- The entry of a queue without urgent entries that goes by class: the management response, else the
alert, else the report (R191 case 2). -/
def choiceByClass (q : List QueueEntry) : Option Source :=
  if q.any fun e => e.source == .response then some .response
  else if q.any fun e => e.source == .alert then some .alert
  else if q.any fun e => e.source == .report then some .report
  else none

/-- Whether the head pass-through frame is ready (R188). -/
def headReady (e : Egm) : Bool :=
  match e.buffer with
  | [] => false
  | f :: _ => f.ready

/-- The choice among the entries when none is urgent and the first pass-through frame, if any, has its
turn decided by the defer mark (R191 cases 2 to 5). -/
def choosePlain (e : Egm) : Option Choice :=
  if !e.queue.isEmpty && occupancy e ≤ e.deferMark then (choiceByClass e.queue).map .entry
  else if headReady e then some .pass
  else e.queue.head?.map fun x => .entry x.source

/-- The arbiter's choice (R191). -/
def choose (e : Egm) : Option Choice :=
  match e.queue.find? fun x => x.source.urgent with
  | some x => some (.entry x.source)
  | none => choosePlain e

/-! ### Egress start (R192) -/

/-- The residence correction of a frame that leaves port `p` now (R192). -/
def residenceCorrection (p : Port) (ingressUptime : Uptime) (s : State) : Nat :=
  elapsed s.rcu.uptime ingressUptime * 2048 +
    ((s.rcu.ingressComp.get p.other).toNat + (s.rcu.egressComp.get p).toNat) * 256

/-- The residence sum before saturation: the received field is a signed 48-bit value (R192, R218). -/
def residenceSum (received correction : Nat) : Int := signed 6 received + correction

/-- The residence sent: the sum saturated to a signed 48-bit value (R192). -/
def residenceSent (sum : Int) : BitVec 48 :=
  BitVec.ofInt 48 (clampInt (-140737488355328) 140737488355327 sum)

/-- Whether the residence sum is saturated (R192). -/
def residenceSaturates (sum : Int) : Bool :=
  sum < -140737488355328 || 140737488355327 < sum

/-- Whether the frame at the head of the buffer of port `p` is still arriving and has passed its upper
limit, so that it is known to end bad (R53). -/
def headOverLimit (p : Port) (s : State) : Bool :=
  match s.arriving p.other with
  | none => false
  | some a => (s.port p).buffer.length == 1 && a.course == .passed && !a.transparent &&
      lengthLimit a < a.count

/-- Whether the head frame of the buffer of port `p` has already ended bad (R192). -/
def headEndedBad (p : Port) (f : PassFrame) (s : State) : Bool :=
  match f.arrival with
  | .bad => true
  | .stopped => true
  | .good => false
  | .arriving => headOverLimit p s

/-- The place of the residence field that is to be corrected at the egress start of the head frame, if it
is a transit frame that has not already ended bad (R192). -/
def correctsAt (p : Port) (f : PassFrame) (s : State) : Option Nat :=
  if headEndedBad p f s then none else f.transit

/-- A pass-through frame becomes the frame in egress and its first octet leaves (R191, R192). -/
def startPass (p : Port) (s : State) : State :=
  match (s.port p).buffer with
  | [] => s
  | f :: _ =>
    match correctsAt p f s with
    | none => s.setPort p { s.port p with egress := some (.pass none 1) }
    | some place =>
      let sum := residenceSum (field place 6 f.octets) (residenceCorrection p f.ingressUptime s)
      let s := if residenceSaturates sum then
          s.countEgress p fun c => { c with residenceSaturations := bump c.residenceSaturations }
        else s
      s.setPort p { s.port p with egress := some (.pass (some (residenceSent sum)) 1) }

/-- The entry of a source becomes IN_EGRESS (R190). -/
def markEntry (src : Source) (q : List QueueEntry) : List QueueEntry :=
  q.map fun e => if e.source = src then { e with inEgress := true } else e

/-- An originated frame becomes the frame in egress, with the check sequence computed over it as it leaves,
and its first octet leaves (R191, R193). -/
def putOnLine (p : Port) (src : Source) (octets : List Byte) (s : State) : State :=
  s.setPort p { s.port p with
    queue := markEntry src (s.port p).queue
    egress := some (.own src (octets ++ checkSequence octets) 1) }

/-- t3 of an answer whose first octet leaves port `p` now (R82). -/
def answerSendTime (p : Port) (ans : Answer) (s : State) : Stamp :=
  if ans.served then egressStamp p s else {}

/-- The egress start of the answer in slot `n` (R82). -/
def startAnswer (p : Port) (n : Nat) (s : State) : State :=
  match (s.anu.slots.getD n {}).answer with
  | none => s
  | some ans =>
    let t3 := answerSendTime p ans s
    let s := putOnLine p (.slot n) (answerFrame ans t3 s.rcu.epoch) s
    changeSlot n (fun sl => { sl with answer := some { ans with egress := some (t3, s.rcu.epoch) } }) s

/-- The outstanding probe after the egress start of the probe with sequence `seq`: if it is that probe, it
records t1 and the egress epoch and enters SENT (R27). -/
def recordSendTime (seq : Seq) (t1 : Stamp) (epoch : Epoch) : Option Outstanding → Option Outstanding
  | none => none
  | some o => if o.seq = seq then some { o with sent := some (t1, epoch) } else some o

/-- The egress start of the PROBE frame: t1 is written whether or not the probe is still outstanding (R27,
R28, R192). -/
def startProbe (p : Port) (s : State) : State :=
  match s.dse.frame with
  | none => s
  | some f =>
    let t1 := egressStamp p s
    let s := putOnLine p .probe (patch untaggedBodyAt t1.octets f.octets) s
    { s with dse := { s.dse with
        outstanding := recordSendTime f.seq t1 s.rcu.epoch s.dse.outstanding } }

/-- The egress start of the management response: no field is written (R192). -/
def startResponse (p : Port) (s : State) : State :=
  match s.mgu.response with
  | none => s
  | some r => putOnLine p .response r.octets s

/-- Whether a copy is QUEUED to a port. -/
def AlertCopy.queuedOn (p : Port) (c : AlertCopy) : Bool := c.port == p && c.phase == .queued

/-- Whether a copy is SENDING on a port. -/
def AlertCopy.sendingOn (p : Port) (c : AlertCopy) : Bool := c.port == p && c.phase == .sending

/-- Whether a copy is QUEUED or SENDING on a port. -/
def AlertCopy.liveOn (p : Port) (c : AlertCopy) : Bool := c.port == p && c.live

/-- The egress start of the alert entry of a port: its collector copy goes before its manager copy (R125,
R126). -/
def startAlert (p : Port) (s : State) : State :=
  match s.wru.alert with
  | none => s
  | some a =>
    if a.collector.queuedOn p then
      putOnLine p .alert a.collector.octets { s with wru := { s.wru with
        alert := some { a with collector := { a.collector with phase := .sending } } } }
    else
      match a.manager with
      | none => s
      | some m =>
        if m.queuedOn p then
          putOnLine p .alert m.octets { s with wru := { s.wru with
            alert := some { a with manager := some { m with phase := .sending } } } }
        else s

/-- The egress start of the report: it enters SENDING, and no field is written (R182). -/
def startReport (p : Port) (s : State) : State :=
  putOnLine p .report s.rpe.buffer { s with rpe := { s.rpe with
    inFlight := s.rpe.inFlight.map fun r => { r with sending := true } } }

/-- The egress start of the entry of a source (R192). -/
def startEntry (p : Port) (src : Source) (s : State) : State :=
  match src with
  | .slot n => startAnswer p n s
  | .probe => startProbe p s
  | .response => startResponse p s
  | .alert => startAlert p s
  | .report => startReport p s

/-- The arbiter's choice at a boundary takes effect (R191, R192). -/
def takeBoundary (p : Port) (s : State) : State :=
  match choose (s.port p) with
  | none => s
  | some .pass => startPass p s
  | some (.entry src) => startEntry p src s

/-! ### Egress end (R193, R194) -/

/-- The check sequence a pass-through frame leaves with (R188, R193). -/
def passCheck (residence : Option (BitVec 48)) (arrival : Arrival) : CheckSequence :=
  match arrival with
  | .stopped => .forcedBad
  | .bad => if residence.isSome then .forcedBad else .received
  | .good => if residence.isSome then .computed else .received
  | .arriving => .received

/-- A pass-through frame as it left: where the part sends a check sequence of its own in place of the one
received, the received one is not sent (R188, R193). -/
def passDeparted (f : PassFrame) (residence : Option (BitVec 48)) : Departed :=
  let octets := passOctets f residence
  departAs (passCheck residence f.arrival)
    (if residence.isSome && f.arrival != .stopped then octets.take (octets.length - 4) else octets)

/-- The EGM counters after a pass-through frame has left (R193, R194, R198). -/
def countPass (check : CheckSequence) (c : EgmCounters) : EgmCounters :=
  { c with
    passSent := bump c.passSent
    forcedBadEnds := if check = .forcedBad then bump c.forcedBadEnds else c.forcedBadEnds }

/-- The egress end of a pass-through frame (R194 step 1). -/
def endPass (p : Port) (f : PassFrame) (residence : Option (BitVec 48)) (s : State) : State :=
  let e := s.port p
  let d := passDeparted f residence
  s.setPort p { e with
    buffer := e.buffer.tail
    egress := none
    departed := some d
    ctr := countPass d.check e.ctr }

/-- Whether a copy of the alert in progress is QUEUED to a port. -/
def alertQueuedOn (p : Port) (s : State) : Bool :=
  match s.wru.alert with
  | none => false
  | some a => a.collector.queuedOn p || (match a.manager with
      | none => false
      | some m => m.queuedOn p)

/-- The queue after the egress end of its entry IN_EGRESS: the entry leaves, but for the shared alert
entry, which returns to QUEUED in its place when its manager copy is still to be sent (R190, R194). -/
def leaveQueue (stays : Bool) (q : List QueueEntry) : List QueueEntry :=
  if stays then q.map fun e => { e with inEgress := false }
  else q.filter fun e => !e.inEgress

/-- The EGM after the egress end of an originated frame (R194 steps 2 and 3). -/
def Egm.endOwn (e : Egm) (octets : List Byte) (stays : Bool) : Egm :=
  { e with
    queue := leaveQueue stays e.queue
    egress := none
    departed := some { octets := octets, check := .computed }
    ctr := { e.ctr with originatedSent := bump e.ctr.originatedSent } }

/-- MGU is told of the egress end of its response: it becomes idle, and a pending PART_RESET is performed
(R208, R211). -/
def responseEnded (s : State) : State :=
  let resets := match s.mgu.response with
    | none => false
    | some r => r.resetPending
  let s := { s with mgu := { s.mgu with
    response := none
    ctr := { s.mgu.ctr with responsesSent := bump s.mgu.ctr.responsesSent } } }
  if resets then softReset s else s

/-- WRU is told of the egress end of the copy SENDING on a port (R126). -/
def alertEnded (p : Port) (s : State) : State :=
  match s.wru.alert with
  | none => s
  | some a =>
    if a.collector.sendingOn p then
      settleAlert { a with
          collector := { a.collector with phase := .ended }
          lastEnd := some s.rcu.uptime }
        { s with wru := { s.wru with ctr := { s.wru.ctr with
          framesSent := bump s.wru.ctr.framesSent } } }
    else
      match a.manager with
      | none => s
      | some m =>
        if m.sendingOn p then
          settleAlert { a with
              manager := some { m with phase := .ended }
              lastEnd := some s.rcu.uptime }
            { s with wru := { s.wru with ctr := { s.wru.ctr with
              framesSent := bump s.wru.ctr.framesSent
              managerSent := bump s.wru.ctr.managerSent } } }
        else s

/-- The report in flight is no longer in flight, and the report buffer is emptied (R183, R184). -/
def clearReport (s : State) : State :=
  { s with rpe := { s.rpe with inFlight := none, buffer := [] } }

/-- RPE is told of the egress end of the report (R170, R183): its records leave the ring, a deferred flush
is performed, and the due check is made. -/
def reportEnded (s : State) : State :=
  let s := decidePressure { s with rrg := s.rrg.remove (inFlightCount s) }
  let s := clearReport { s with rpe := { s.rpe with
    ctr := { s.rpe.ctr with sent := bump s.rpe.ctr.sent } } }
  dueCheck (deferredFlush s)

/-- The owner of an entry is told of its egress end (R194 step 2). -/
def ownerEnded (p : Port) (src : Source) (s : State) : State :=
  match src with
  | .slot n => answerEnded n s
  | .probe => probeEnded s
  | .response => responseEnded s
  | .alert => alertEnded p s
  | .report => reportEnded s

/-- The egress end of an originated frame: it is counted, its entry leaves the queue and its owner is
told, in one effect (R194). -/
def endOwn (p : Port) (src : Source) (octets : List Byte) (s : State) : State :=
  let stays := src == .alert && alertQueuedOn p s
  ownerEnded p src (s.setPort p ((s.port p).endOwn octets stays))

/-- What the egress end of the frame in egress on a port does. A frame still arriving has not left
(assumption 2). -/
def takeEgressEnd (p : Port) (s : State) : State :=
  match (s.port p).egress with
  | none => s
  | some (.own src octets _) => endOwn p src octets s
  | some (.pass residence _) =>
    match (s.port p).buffer with
    | [] => s
    | f :: _ => if f.arrival = .arriving then s else endPass p f residence s

/-! ### Link loss (R196) -/

/-- MGU is told that its response was dropped: a pending PART_RESET is discarded with it (R208). -/
def responseDropped (s : State) : State :=
  { s with mgu := { s.mgu with
    response := none
    ctr := { s.mgu.ctr with responsesDropped := bump s.mgu.ctr.responsesDropped } } }

/-- RPE is told that the report was dropped: its records stay, and a deferred flush is performed (R184). -/
def reportDropped (s : State) : State :=
  deferredFlush (clearReport { s with rpe := { s.rpe with
    ctr := { s.rpe.ctr with dropped := bump s.rpe.ctr.dropped } } })

/-- A copy after the drop of the alert entry of a port (R127). -/
def AlertCopy.dropOn (p : Port) (c : AlertCopy) : AlertCopy :=
  if c.liveOn p then { c with phase := .dropped } else c

/-- The number of copies that the alert entry of a port still holds. -/
def Alert.heldOn (p : Port) (a : Alert) : Nat :=
  (if a.collector.liveOn p then 1 else 0) + (match a.manager with
    | none => 0
    | some m => if m.liveOn p then 1 else 0)

/-- WRU is told that the alert entry of a port was dropped (R127). -/
def alertDropped (p : Port) (s : State) : State :=
  match s.wru.alert with
  | none => s
  | some a =>
    let s := { s with wru := { s.wru with
      alertDue := true
      testDue := s.wru.testDue || !s.wru.alertDue
      ctr := { s.wru.ctr with framesDropped := addCount s.wru.ctr.framesDropped (a.heldOn p) } } }
    settleAlert { a with
      collector := a.collector.dropOn p
      manager := a.manager.map (AlertCopy.dropOn p) } s

/-- The owner of an entry is told of its drop (R196 step 2). -/
def ownerDropped (p : Port) (src : Source) (s : State) : State :=
  match src with
  | .slot n => answerDropped n s
  | .probe => probeDropped s
  | .response => responseDropped s
  | .alert => alertDropped p s
  | .report => reportDropped s

/-- The number of frames an entry of a port still holds (R196 step 2). -/
def entryFrames (p : Port) (src : Source) (s : State) : Nat :=
  match src with
  | .alert =>
    match s.wru.alert with
    | none => 0
    | some a => a.heldOn p
  | .slot _ => 1
  | .probe => 1
  | .response => 1
  | .report => 1

/-- An entry is dropped at link loss: each frame it holds is counted, and its owner is told (R196). -/
def dropEntry (p : Port) (s : State) (e : QueueEntry) : State :=
  ownerDropped p e.source (s.countEgress p fun c => { c with
    originatedDrops := addCount c.originatedDrops (entryFrames p e.source s) })

/-- The EGM of a port whose link is lost: sending stops, every frame held is discarded and counted, and
the queue is empty (R196, R197). The link is DOWN while the owners are told (assumption 12). -/
def Egm.lose (e : Egm) : Egm :=
  { e with
    link := false
    buffer := []
    queue := []
    egress := none
    ctr := { e.ctr with linkDrops := addCount e.ctr.linkDrops e.buffer.length } }

/-- What the loss of the departure port's link does to an admission: a refusal stands as it was decided at the
first octet (R187, R196). -/
def Admission.loseDeparture : Admission → Admission
  | .room => .down
  | .full => .full
  | .down => .down

/-- The frame arriving on the other port, bound for a port whose link is lost: its octets still to come
are discarded (R196 step 3). A frame that FCL has not decided yet, and that the buffer had room for, becomes
a link drop if it is not for the part (assumption 3); one refused at its first octet stays refused for the
reason it had there (R187). -/
def Arriving.loseDeparture (a : Arriving) : Arriving :=
  match a.course with
  | .passed => { a with course := .refused }
  | .undecided => { a with admission := a.admission.loseDeparture }
  | .forPart => a
  | .refused => a

/-- The link of a port is lost (R53, R58, R196, R197). -/
def loseLink (p : Port) (s : State) : State :=
  let s := endsBad p .stopped s
  let dropped := (s.port p).queue
  let s := s.setPort p (s.port p).lose
  let s := s.setArriving p.other ((s.arriving p.other).map Arriving.loseDeparture)
  dropped.foldl (dropEntry p) s

/-! ### Meanings -/

/-- PASS_THROUGH_READY (R188): the octets up to this instant make the head frame ready. Readiness is a
function of the buffer (`PassFrame.ready`), which the next choice reads. -/
def execPassThroughReady (_p : Port) (flow : Flow) (s : State) : Host.Outcome State Fault Refusal :=
  .next (applyFlow flow s)

/-- FRAME_BOUNDARY (R191, R192): on a port that can begin a new frame, the arbiter chooses what goes and
its first octet leaves. Every choice is made by this command (assumption 4). -/
def execFrameBoundary (p : Port) (flow : Flow) (s : State) : Host.Outcome State Fault Refusal :=
  let s := applyFlow flow s
  if (s.port p).link && (s.port p).egress.isNone then .next (takeBoundary p s) else .next s

/-- EGRESS_END (R194): the last octet of the frame in egress has left. -/
def execEgressEnd (p : Port) (flow : Flow) (s : State) : Host.Outcome State Fault Refusal :=
  .next (finish (takeEgressEnd p (applyFlow flow s)))

/-- LINK_LOSS (R196): the link of a port that was UP is lost. -/
def execLinkLoss (p : Port) (flow : Flow) (s : State) : Host.Outcome State Fault Refusal :=
  let s := applyFlow flow s
  if (s.port p).link then .next (finish (loseLink p s)) else .next s

/-- The link state of a port becomes UP, and if it is the collector port, WRU and RPE make their tests
(R124, R180, R197; assumption 18). -/
def raiseLink (p : Port) (s : State) : State :=
  let s := s.setPort p { s.port p with link := true }
  if p = s.mgu.station.collectorPort then dueCheck (alertTest s) else s

/-- LINK_UP (R197): the link of a port that was DOWN comes up. -/
def execLinkUp (p : Port) (s : State) : Host.Outcome State Fault Refusal :=
  if (s.port p).link then .next s else .next (raiseLink p s)

end Sys2Proof.Machine
end

