-- ==== Sys2Proof/Machine/Tables.lean ====
section
/-! DEFINITION. The tables of management as a READ shows them: the entries of each table, each in its own
octets, and which requests each entry takes (11.3, 12.4; R19, R47, R49, R62, R63, R74, R89, R114 to
R116, R128 to R130, R154, R155, R173 to R175, R185, R198, R202, R203, R205, R206). -/

namespace Sys2Proof.Machine

/-! ### Entries -/

/-- Octets to which the spec gives a place in an entry and no value (assumption 8). -/
def freeOctets (s : State) (place offset n : Nat) : List Byte :=
  (List.range n).map fun i => Config.freeOctet s.serial place (offset + i)

/-- A counter in 4 octets (12.4). -/
def counterOctets (c : Counter) : List Byte := be 4 c.toNat

/-- A yes or no as one entry. -/
def flagEntry (b : Bool) : List Byte := flagOctet b

/-- Table 0, IDENT (R206). -/
def identTable (s : State) : List (List Byte) :=
  [be 2 0x50A7, be 2 0x2240, be 1 1, be 2 s.mgu.station.rackId.toNat, flagEntry s.mgu.bootFault]

/-- Table 1, CLOCK (R19). -/
def clockTable (s : State) : List (List Byte) :=
  [be 1 s.dse.state.code, be 1 (quality s).code, be 4 (uncertainty s).toNat, beInt 4 s.rcu.f,
    beInt 8 s.rcu.s, beInt 4 s.rcu.a, be 4 s.rcu.epoch.toNat, be 2 s.rcu.ingressComp.u.toNat,
    be 2 s.rcu.egressComp.u.toNat, be 2 s.rcu.ingressComp.k.toNat, be 2 s.rcu.egressComp.k.toNat,
    be 1 s.rcu.pulseFloor.code]

/-- The servo settings in the order of R47. -/
def servoSettingsTable (t : ServoSettings) : List (List Byte) :=
  [beInt 1 t.p, be 1 t.gi, be 1 t.gp, be 4 t.delayCeiling, be 4 t.gate, be 1 t.missLimit,
    be 4 t.stepThreshold, flagEntry t.stepInLock, be 4 t.lockWindow, be 4 t.unlockThreshold,
    be 4 t.rateJumpLimit, be 4 t.holdoverBound, be 4 t.holdoverLimit, be 1 t.probeDomain.toNat]

/-- The outstanding probe: its phase and its sequence (12.4). -/
def probeEntry (s : State) : List Byte :=
  match s.dse.outstanding with
  | none => be 1 0 ++ freeOctets s 2019 1 2
  | some o => be 1 (if o.sent.isSome then 2 else 1) ++ be 2 o.seq.toNat

/-- The smallest delay of the window (R33, R47). -/
def smallestDelayEntry (s : State) : List Byte :=
  match smallestDelay s.dse.window with
  | none => freeOctets s 2021 0 4
  | some d => be 4 d

/-- The last accepted offset (12.4). -/
def lastOffsetEntry : Option Int → List Byte
  | none => be 8 0x8000000000000000
  | some v => beInt 8 v

/-- The DSE counters in the order of R49. -/
def dseCounterTable (c : DseCounters) : List (List Byte) :=
  [c.probesSent, c.probesDropped, c.probesUnsent, c.staleEchoes, c.echoStampFaults, c.upstreamUnlocked,
    c.delayRejects, c.gated, c.misses, c.echoesAccepted, c.dseSteps, c.offsetClamps, c.rateLimits,
    c.rateJumps].map counterOctets

/-- Table 2, SERVO (R47, R49). -/
def servoTable (s : State) : List (List Byte) :=
  servoSettingsTable s.dse.settings ++
    [be 4 s.dse.missRun.toNat, be 4 s.dse.lockInRun.toNat, be 4 s.dse.unlockRun.toNat,
      be 4 s.dse.lockCount.toNat, be 2 s.dse.nextSeq.toNat, probeEntry s, be 1 s.dse.window.length,
      smallestDelayEntry s, lastOffsetEntry s.dse.lastOffset, beInt 4 s.dse.holdoverRate] ++
    dseCounterTable s.dse.ctr

/-- A filter row in 8 octets (12.4). -/
def filterRow (f : Filter) : List Byte :=
  flagOctet f.enable ++ be 4 f.pattern.toNat ++ be 1 f.maskSel.toNat ++ be 1 f.action.code ++
    be 1 f.target.toNat

/-- Table 3, FILTERS (R62). -/
def filterTable (s : State) : List (List Byte) :=
  s.fcl.filters.map filterRow ++ s.fcl.filters.map fun f => counterOctets f.hits

/-- Table 4, MASKS (R63). -/
def maskTable (s : State) : List (List Byte) := s.fcl.masks.map fun m => be 4 m.toNat

/-- The tag of a slot: present or not, and its octets as received (R76). -/
def tagEntry (s : State) (place : Nat) : Option (BitVec 32) → List Byte
  | none => be 1 0 ++ freeOctets s place 9 4
  | some t => be 1 1 ++ be 4 t.toNat

/-- t3 and its epoch, which a slot holds from its egress start on (R76, R82). -/
def sendTimeEntry (s : State) (place : Nat) : Option (Stamp × Epoch) → List Byte
  | none => freeOctets s place 52 14
  | some (t3, epoch) => t3.octets ++ be 4 epoch.toNat

/-- The contents of slot `n` in 66 octets (12.4); a FREE slot reads zero but for its index (R89). -/
def slotContents (s : State) (n : Nat) : Option Answer → List Byte
  | none => be 46 0 ++ be 1 255 ++ be 19 0
  | some a =>
    be 1 (if a.egress.isSome then 2 else 1) ++ be 6 a.requester.toNat ++ be 1 (portCode a.port) ++
      tagEntry s (5001 + n) a.tag ++ be 1 a.domain.toNat ++ be 2 a.seq.toNat ++ a.ts.octets ++
      a.t2.octets ++ be 4 a.epoch.toNat ++ be 1 a.quality.code ++ be 4 a.uncertainty.toNat ++
      flagOctet a.served ++ be 1 a.serverIndex.toNat ++ be 1 (serverCode a.serverState) ++
      beInt 4 a.fo ++ sendTimeEntry s (5001 + n) a.egress

/-- The six entries of slot `n` (R89, R90). -/
def slotEntries (s : State) (n : Nat) (sl : Slot) : List (List Byte) :=
  [slotContents s n sl.answer, counterOctets sl.sent, counterOctets sl.dropped,
    counterOctets sl.unserved, counterOctets sl.overruns, flagEntry sl.overrunFlag]

/-- Table 5, ANSWER SLOTS (R89). -/
def slotTable (s : State) : List (List Byte) :=
  be 1 s.anu.floor.code :: (s.anu.slots.zipIdx.flatMap fun x => slotEntries s x.2 x.1)

/-- A stamp that may be absent; absent reads zero (R115). -/
def stampEntry : Option Stamp → List Byte
  | none => be 10 0
  | some t => t.octets

/-- A server row as it is read, 66 octets (R115, 12.4). -/
def serverRow : Option Server → List Byte
  | none => be 66 0
  | some sv =>
    be 1 sv.state.code ++ flagOctet sv.pinned ++ be 6 sv.address.toNat ++ be 2 sv.allowance.toNat ++
      be 1 sv.select.code ++ stampEntry sv.lastTi ++ be 8 sv.lastQuery.toNat ++
      be 4 (sv.sampleEpoch.getD 0).toNat ++ beInt 4 (sv.lastSample.getD 0) ++ absentInt4 sv.fo ++
      beInt 4 sv.windowFo ++ sv.windowTi.octets ++ be 2 sv.windowCount ++ absentInt4 sv.drift ++
      be 1 sv.run ++ counterOctets sv.queries

/-- The query count of an entry; an EMPTY one reads zero (R115). -/
def queryCount : Option Server → Counter
  | none => 0
  | some sv => sv.queries

/-- Table 6, SERVERS (R115). -/
def serverTable (s : State) : List (List Byte) :=
  s.dtr.servers.map serverRow ++ s.dtr.servers.map fun e => counterOctets (queryCount e)

/-- The drift settings in the order of R114. -/
def driftSettingsTable (t : DriftSettings) : List (List Byte) :=
  [flagEntry t.autoLearn, be 1 t.k, be 1 t.w, be 4 t.offsetBound, be 4 t.rateBound, be 1 t.confirm,
    be 4 t.wildLimit, be 4 t.silenceTimeout, be 4 t.evictionTime, flagEntry t.silentWarn,
    be 1 t.majorityFloor]

/-- The DTR counters in the order of R116. -/
def dtrCounterTable (c : DtrCounters) : List (List Byte) :=
  [c.tracked, c.untracked, c.admissions, c.evictions, c.silenced, c.wild, c.windows,
    c.heldEvaluations].map counterOctets

/-- Table 7, DRIFT (R114, R116). -/
def driftTable (s : State) : List (List Byte) :=
  driftSettingsTable s.dtr.settings ++
    [be 4 (releaseOf s.dtr.settings.offsetBound), be 4 (releaseOf s.dtr.settings.rateBound),
      flagOctet s.dtr.majority ++ be 1 s.dtr.evaluated ++ be 1 s.dtr.plus ++ be 1 s.dtr.minus] ++
    dtrCounterTable s.dtr.ctr

/-- The code of a copy's phase (12.4). -/
def CopyPhase.code : CopyPhase → Nat
  | .queued => 1
  | .sending => 2
  | .ended => 3
  | .dropped => 4

/-- The alert state: in progress, and the phase of each copy (12.4). -/
def alertEntry : Option Alert → List Byte
  | none => be 3 0
  | some a => be 1 1 ++ be 1 a.collector.phase.code ++ be 1 (match a.manager with
      | none => 0
      | some m => m.phase.code)

/-- The uptime since the last alert end, or all ones (R129). -/
def sinceAlertEntry (s : State) : List Byte :=
  match s.wru.lastAlertEnd with
  | none => be 8 0xFFFFFFFFFFFFFFFF
  | some e => be 8 (elapsed s.rcu.uptime e)

/-- The edge select of a server's bit; ENTER for an EMPTY entry (R121). -/
def selectEntry : Option Server → List Byte
  | none => be 1 EdgeSelect.enter.code
  | some sv => be 1 sv.select.code

/-- The WRU counters in the order of R130. -/
def wruCounterTable (c : WruCounters) : List (List Byte) :=
  [c.built, c.framesSent, c.managerSent, c.framesDropped, c.managerOmitted].map counterOctets

/-- Table 8, WARNINGS (R128 to R130). -/
def warningTable (s : State) : List (List Byte) :=
  [be 7 s.wru.pending.toNat, be 7 s.wru.condition.toNat, be 7 s.wru.lineMask.toNat,
    be 7 s.wru.frameMask.toNat, be 1 s.wru.select48.code, be 1 s.wru.select49.code,
    be 2 s.wru.holdOff, flagEntry s.wru.copyToManager, flagEntry s.wru.alertDue,
    be 2 s.wru.alertSeq.toNat, alertEntry s.wru.alert, sinceAlertEntry s] ++
    s.dtr.servers.map selectEntry ++ wruCounterTable s.wru.ctr

/-- The nine entries of a profile (R154). -/
def profileEntries (p : Profile) : List (List Byte) :=
  [flagEntry p.sheddable, be 2 p.timeout] ++
    [p.dated, p.completed, p.timedOut, p.reused, p.shed, p.undated, p.unmatched].map counterOctets

/-- The number of OPEN entries (R154). -/
def openCount (s : State) : Nat := s.dte.exchanges.countP Option.isSome

/-- Table 9, PROFILES (R154). -/
def profileTable (s : State) : List (List Byte) :=
  s.dte.profiles.flatMap profileEntries ++ [counterOctets s.dte.discarded, be 2 (openCount s)]

/-- An exchange row in 38 octets (R155, 12.4). -/
def exchangeRow : Option Exchange → List Byte
  | none => be 38 0
  | some x =>
    be 1 1 ++ be 6 x.key.initiator.toNat ++ be 3 x.key.flow.toNat ++ be 2 x.key.tag.toNat ++
      be 1 x.op.toNat ++ be 1 x.profile.toNat ++ x.stamp.octets ++ be 1 x.quality.code ++
      be 4 x.epoch.toNat ++ flagOctet x.drifting ++ be 8 x.deadline.toNat

/-- Table 10, EXCHANGES (R155). -/
def exchangeTable (s : State) : List (List Byte) := s.dte.exchanges.map exchangeRow

/-- The RRG counters in the order of R175. -/
def rrgCounterTable (c : RrgCounters) : List (List Byte) :=
  [c.written, c.lostStorage, c.lostNotice, c.delivered, c.flushed, c.pressureOnsets].map counterOctets

/-- Table 11, RING (R174, R175). -/
def ringTable (s : State) : List (List Byte) :=
  [be 2 s.rrg.reserve, be 2 s.rrg.highMark, be 2 s.rrg.lowMark, be 2 s.rrg.count, be 2 s.rrg.oldest,
    be 2 s.rrg.next, flagEntry s.rrg.pressure, be 2 s.rrg.seq.toNat, be 1 (inFlightCount s)] ++
    rrgCounterTable s.rrg.ctr

/-- Table 12, RECORDS, by position from the oldest (R173). -/
def recordTable (s : State) : List (List Byte) := s.rrg.held.map Record.octets

/-- The report in flight (R185, 12.4). -/
def inFlightEntry (s : State) : List Byte :=
  match s.rpe.inFlight with
  | none => be 2 0 ++ freeOctets s 13003 2 1 ++ be 1 0 ++ freeOctets s 13003 4 2
  | some r => be 1 1 ++ be 1 (if r.sending then 2 else 1) ++ be 1 (portCode r.port) ++ be 1 r.n ++
      be 2 r.first.toNat

/-- The uptime to the next expiry of the report timer, or all ones while it is stopped (R185). -/
def nextExpiryEntry (s : State) : List Byte :=
  match s.rpe.timer with
  | none => be 8 0xFFFFFFFFFFFFFFFF
  | some due => be 8 (elapsed due s.rcu.uptime)

/-- Table 13, REPORT (R185). -/
def reportTable (s : State) : List (List Byte) :=
  [be 1 s.rpe.threshold, be 2 s.rpe.period, be 2 s.rpe.seq.toNat, inFlightEntry s,
    flagOctet s.rpe.timerDue ++ flagOctet s.rpe.reportNow ++ flagOctet s.rpe.deferredFlush,
    nextExpiryEntry s] ++ [s.rpe.ctr.built, s.rpe.ctr.sent, s.rpe.ctr.dropped].map counterOctets

/-- The code of a queue entry's source (12.4). -/
def Source.code : Source → Nat
  | .slot n => n
  | .probe => 8
  | .response => 9
  | .alert => 10
  | .report => 11

/-- The queue of a port: the number of entries and 12 pairs of source and phase; the pairs that hold no
entry have no value (12.4, assumption 8). -/
def queueEntry (s : State) (place : Nat) (q : List QueueEntry) : List Byte :=
  be 1 q.length ++ (q.flatMap fun e => be 1 e.source.code ++ be 1 (if e.inEgress then 2 else 1)) ++
    freeOctets s place (1 + 2 * q.length) (24 - 2 * q.length)

/-- The ingress counters in the order of R74. -/
def ingressCounterTable (c : IngressCounters) : List (List Byte) :=
  [c.framesIn, c.badEnds, c.unclassified, c.misdirected, c.malformed, c.overruns].map counterOctets

/-- The EGM counters in the order of R198. -/
def egmCounterTable (c : EgmCounters) : List (List Byte) :=
  [c.passSent, c.originatedSent, c.bufferFull, c.linkDrops, c.originatedDrops, c.forcedBadEnds,
    c.residenceSaturations].map counterOctets

/-- The nineteen entries of a port (12.4). DESIGN CHOICE (assumption 22): the link state reads 1 for UP and 0 for
DOWN, since 12.4 gives its width and no codes. -/
def portEntries (s : State) (p : Port) (place : Nat) : List (List Byte) :=
  [be 2 (s.rcu.ingressComp.get p).toNat, be 2 (s.rcu.egressComp.get p).toNat,
    be 2 (s.port p).deferMark, flagEntry (s.port p).link, queueEntry s place (s.port p).queue,
    be 2 (occupancy (s.port p))] ++ ingressCounterTable (s.fcl.ctr.get p) ++
    egmCounterTable (s.port p).ctr

/-- Table 14, PORTS (R198). -/
def portTable (s : State) : List (List Byte) := portEntries s .u 14004 ++ portEntries s .k 14023

/-- The MGU counters in the order of R216. -/
def mguCounterTable (c : MguCounters) : List (List Byte) :=
  [c.accepted, c.refusedSource, c.busyDrops, c.malformed, c.responsesSent, c.responsesDropped].map
    counterOctets

/-- Table 15, STATION (R205, R216). -/
def stationTable (s : State) : List (List Byte) :=
  let t := s.mgu.station
  [be 6 t.own.toNat, be 6 t.manager.toNat, be 2 t.rackId.toNat, be 2 t.timeType.toNat,
    be 2 t.storageType.toNat, be 6 t.collector.toNat, be 1 (portCode t.collectorPort),
    be 6 t.timeServer.toNat, be 1 (portCode t.timeServerPort), be 6 t.group.toNat, be 2 t.tagType.toNat,
    be 8 t.hashSet.toNat, be 1 (portCode s.mgu.managerPort)] ++ mguCounterTable s.mgu.ctr

/-- Table 16, RATE HISTORY, newest first; an entry not held reads 0x80000000 (R43, 12.4). -/
def historyTable (s : State) : List (List Byte) :=
  (List.range 4).map fun i => absentInt4 s.dse.history[i]?

/-- The entries of a table (11.3); none for a number that names no table. -/
def tableEntries (s : State) (t : Nat) : Option (List (List Byte)) :=
  match t with
  | 0 => some (identTable s)
  | 1 => some (clockTable s)
  | 2 => some (servoTable s)
  | 3 => some (filterTable s)
  | 4 => some (maskTable s)
  | 5 => some (slotTable s)
  | 6 => some (serverTable s)
  | 7 => some (driftTable s)
  | 8 => some (warningTable s)
  | 9 => some (profileTable s)
  | 10 => some (exchangeTable s)
  | 11 => some (ringTable s)
  | 12 => some (recordTable s)
  | 13 => some (reportTable s)
  | 14 => some (portTable s)
  | 15 => some (stationTable s)
  | 16 => some (historyTable s)
  | _ => none

/-! ### Which requests an entry takes (R202) -/

/-- What an entry takes besides READ: nothing, a WRITE of this width, or a SWAP of this width. -/
inductive Access
  | readOnly
  | write (width : Nat)
  | swap (width : Nat)
deriving DecidableEq, Repr

/-- The entry takes a WRITE, of this width, if the list of widths names it. -/
def writeOf : Option Nat → Access
  | none => .readOnly
  | some w => .write w

/-- The widths of the servo settings (12.4). -/
def servoWidths : List Nat := [1, 1, 1, 4, 4, 1, 4, 1, 4, 4, 4, 4, 4, 1]

/-- The widths of the drift settings (12.4). -/
def driftWidths : List Nat := [1, 1, 1, 4, 4, 1, 4, 4, 4, 1, 1]

/-- The widths of the writable entries at the head of STATION (12.4). -/
def stationWidths : List Nat := [6, 6, 2, 2, 2, 6, 1, 6, 1, 6, 2, 8]

/-- CLOCK (R19). -/
def clockAccess (i : Nat) : Access :=
  if i = 3 then .write 4 else if 7 ≤ i ∧ i ≤ 10 then .write 2 else if i = 11 then .write 1
  else .readOnly

/-- SERVO (R47, R49). -/
def servoAccess (i : Nat) : Access :=
  if 24 ≤ i then .swap 4 else writeOf servoWidths[i]?

/-- ANSWER SLOTS (R89). -/
def slotAccess (i : Nat) : Access :=
  if i = 0 then .write 1
  else if (i - 1) % 6 = 0 then .readOnly
  else if (i - 1) % 6 = 5 then .swap 1
  else .swap 4

/-- DRIFT (R114, R116). -/
def driftAccess (i : Nat) : Access :=
  if 14 ≤ i then .swap 4 else writeOf driftWidths[i]?

/-- WARNINGS (R128 to R130). -/
def warningAccess (i : Nat) : Access :=
  if i = 0 then .swap 7
  else if i = 2 ∨ i = 3 then .write 7
  else if i = 4 ∨ i = 5 ∨ i = 7 then .write 1
  else if i = 6 then .write 2
  else if i = 8 then .swap 1
  else if 60 ≤ i then .swap 4
  else .readOnly

/-- PROFILES (R154). -/
def profileAccess (i : Nat) : Access :=
  if i = 72 then .swap 4
  else if 73 ≤ i then .readOnly
  else if i % 9 = 0 then .write 1
  else if i % 9 = 1 then .write 2
  else .swap 4

/-- RING (R168, R169, R174, R175). -/
def ringAccess (i : Nat) : Access :=
  if i ≤ 2 then .write 2 else if 9 ≤ i then .swap 4 else .readOnly

/-- REPORT (R177, R185). -/
def reportAccess (i : Nat) : Access :=
  if i = 0 then .write 1 else if i = 1 then .write 2 else if 6 ≤ i then .swap 4 else .readOnly

/-- PORTS (R8, R189, R198). -/
def portAccess (i : Nat) : Access :=
  if i % 19 ≤ 2 then .write 2 else if 6 ≤ i % 19 then .swap 4 else .readOnly

/-- STATION (R205, R216). -/
def stationAccess (i : Nat) : Access :=
  if 13 ≤ i then .swap 4 else writeOf stationWidths[i]?

/-- What entry `i` of table `t` takes besides READ (R202, R206). -/
def access (t i : Nat) : Access :=
  match t with
  | 1 => clockAccess i
  | 2 => servoAccess i
  | 3 => if i < 32 then .write 8 else .swap 4
  | 4 => .write 4
  | 5 => slotAccess i
  | 6 => if i < 48 then .write 10 else .swap 4
  | 7 => driftAccess i
  | 8 => warningAccess i
  | 9 => profileAccess i
  | 11 => ringAccess i
  | 13 => reportAccess i
  | 14 => portAccess i
  | 15 => stationAccess i
  | _ => .readOnly

end Sys2Proof.Machine
end

