-- ==== Sys2Proof/Machine/Management.lean ====
section
/-! DEFINITION. Management: what a WRITE, a SWAP and a DO of each entry and command do, the checks of a
request, the acceptance of a frame, its response, and the meaning of MGMT_REQ_END (11; R8, R10, R12,
R18, R19, R23, R24, R47, R48, R62, R63, R72, R73, R80, R85, R94, R95, R107, R108, R111 to R115, R121 to
R129, R153, R154, R163, R168 to R172, R177 to R180, R189, R200 to R210). -/

namespace Sys2Proof.Machine

/-- The status of a request (12.2). -/
inductive Status
  | ok | clamped | badTable | badIndex | badOp | badValue | denied | skipped
deriving DecidableEq, Repr

/-- The code of a status (12.2). -/
def Status.code : Status → Nat
  | .ok => 0
  | .clamped => 1
  | .badTable => 2
  | .badIndex => 3
  | .badOp => 4
  | .badValue => 5
  | .denied => 6
  | .skipped => 7

/-- What a request came to: its status, its result data and the state after it. -/
structure Done where
  status : Status
  data : List Byte := []
  state : State
deriving DecidableEq, Repr

/-- A request that changes nothing (R202). -/
def refuse (status : Status) (s : State) : Done := { status := status, state := s }

/-- An accepted write: CLAMPED if the stored value differs from the written one, else OK. -/
def stored (clamped : Bool) (s : State) : Done :=
  { status := if clamped then .clamped else .ok, state := s }

/-- A write of a number with clamping into `lo` to `hi`. -/
def clampedWrite (lo hi v : Nat) (put : Nat → State) : Done :=
  let kept := clampNat lo hi v
  stored (kept != v) (put kept)

/-- A write of a setting that takes 0 (off) or 1 (on). -/
def flagWrite (v : Nat) (s : State) (put : Bool → State) : Done :=
  match v with
  | 0 => stored false (put false)
  | 1 => stored false (put true)
  | _ => refuse .badValue s

/-- A write of a port: U or K (R48, R177). -/
def portWrite (v : Nat) (s : State) (put : Port → State) : Done :=
  match v with
  | 0 => stored false (put .u)
  | 1 => stored false (put .k)
  | _ => refuse .badValue s

/-! ### WRITE: RCU, DSE, FCL, ANU -/

/-- RCU's part of the state changed. -/
def changeRcu (f : Rcu → Rcu) (s : State) : State := { s with rcu := f s.rcu }

/-- A WRITE of F (R19). -/
def writeF (v : List Byte) (s : State) : Done :=
  if s.dse.state = .idle then
    let f := signed 4 (ofBe v)
    let kept := clampInt (-Config.rateLimit) Config.rateLimit f
    stored (kept != f) (recomputeRate (changeRcu (fun r => { r with f := kept }) s))
  else refuse .denied s

/-- A WRITE of an ingress compensation, whose two octets hold no value above 65,535 (R8). -/
def writeIngressComp (p : Port) (v : Nat) (s : State) : Done :=
  stored false (changeRcu (fun r => { r with ingressComp := r.ingressComp.set p (BitVec.ofNat 16 v) }) s)

/-- A WRITE of an egress compensation (R8). -/
def writeEgressComp (p : Port) (v : Nat) (s : State) : Done :=
  stored false (changeRcu (fun r => { r with egressComp := r.egressComp.set p (BitVec.ofNat 16 v) }) s)

/-- A WRITE to CLOCK (R18, R19). -/
def writeClock (i : Nat) (v : List Byte) (s : State) : Done :=
  let n := ofBe v
  match i with
  | 3 => writeF v s
  | 7 => writeIngressComp .u n s
  | 8 => writeEgressComp .u n s
  | 9 => writeIngressComp .k n s
  | 10 => writeEgressComp .k n s
  | 11 => clampedWrite 0 4 n fun n => changeRcu (fun r => { r with pulseFloor := Quality.ofCode n }) s
  | _ => refuse .badOp s

/-- The servo settings changed. -/
def changeServo (f : ServoSettings → ServoSettings) (s : State) : State :=
  { s with dse := { s.dse with settings := f s.dse.settings } }

/-- A WRITE of the probe interval setting, a signed octet (R47). -/
def writeProbeInterval (n : Nat) (s : State) : Done :=
  let p := signed 1 n
  let kept := clampInt (-3) 4 p
  stored (kept != p) (changeServo (fun t => { t with p := kept }) s)

/-- A WRITE to SERVO (R47). -/
def writeServoSetting (i : Nat) (v : List Byte) (s : State) : Done :=
  let n := ofBe v
  match i with
  | 0 => writeProbeInterval n s
  | 1 => clampedWrite 0 15 n fun n => changeServo (fun t => { t with gi := n }) s
  | 2 => clampedWrite 0 15 n fun n => changeServo (fun t => { t with gp := n }) s
  | 3 => clampedWrite 1 100000000 n fun n => changeServo (fun t => { t with delayCeiling := n }) s
  | 4 => clampedWrite 0 1000000 n fun n => changeServo (fun t => { t with gate := n }) s
  | 5 => clampedWrite 2 64 n fun n => changeServo (fun t => { t with missLimit := n }) s
  | 6 => clampedWrite 1000 1000000000 n fun n =>
      changeServo (fun t => { t with stepThreshold := n }) s
  | 7 => flagWrite n s fun b => changeServo (fun t => { t with stepInLock := b }) s
  | 8 => clampedWrite 1 1000000 n fun n => changeServo (fun t => { t with lockWindow := n }) s
  | 9 => clampedWrite 1 1000000000 n fun n =>
      changeServo (fun t => { t with unlockThreshold := n }) s
  | 10 => clampedWrite 1 400000000 n fun n =>
      changeServo (fun t => { t with rateJumpLimit := n }) s
  | 11 => clampedWrite 1 100000 n fun n => changeServo (fun t => { t with holdoverBound := n }) s
  | 12 => clampedWrite 1 4294967294 n fun n =>
      changeServo (fun t => { t with holdoverLimit := n }) s
  | 13 => stored false (changeServo (fun t => { t with probeDomain := BitVec.ofNat 8 n }) s)
  | _ => refuse .badOp s

/-- The filter a row of 8 octets spells, if R62 accepts it. -/
def filterOf (v : List Byte) (hits : Counter) : Option Filter :=
  match Action.ofCode (field 6 1 v) with
  | none => none
  | some action =>
    if field 0 1 v ≤ 1 ∧ field 5 1 v ≤ 3 ∧ field 7 1 v ≤ 7 then
      some { enable := field 0 1 v == 1
             pattern := BitVec.ofNat 32 (field 1 4 v)
             maskSel := BitVec.ofNat 2 (field 5 1 v)
             action := action
             target := BitVec.ofNat 3 (field 7 1 v)
             hits := hits }
    else none

/-- A WRITE of a filter row, which keeps its hit counter (R62). -/
def writeFilter (i : Nat) (v : List Byte) (s : State) : Done :=
  match filterOf v (s.fcl.filters.getD i {}).hits with
  | none => refuse .badValue s
  | some f => stored false { s with fcl := { s.fcl with filters := s.fcl.filters.set i f } }

/-- A WRITE of a mask (R63). -/
def writeMask (i : Nat) (v : List Byte) (s : State) : Done :=
  stored false { s with fcl := { s.fcl with masks := s.fcl.masks.set i (BitVec.ofNat 32 (ofBe v)) } }

/-- A WRITE of the answer floor (R80). -/
def writeFloor (v : List Byte) (s : State) : Done :=
  clampedWrite 0 4 (ofBe v) fun n => { s with anu := { s.anu with floor := Quality.ofCode n } }

/-! ### WRITE: DTR -/

/-- A new PINNED entry (R94). -/
def pinnedServer (a : Address) (allowance : BitVec 16) (select : EdgeSelect) (now : Uptime) : Server :=
  { address := a, pinned := true, allowance := allowance, select := select, lastQuery := now }

/-- A new PINNED entry is made at an EMPTY index, with its ADMITTED notice (R94). -/
def pinServer (i : Nat) (a : Address) (allowance : BitVec 16) (select : EdgeSelect) (s : State) :
    State :=
  let sv := pinnedServer a allowance select s.rcu.uptime
  serverNotice i sv none (some .probation) .admitted (setServer i (some sv) s)

/-- Whether an entry other than `i` holds an address (R94). -/
def heldElsewhere (i : Nat) (a : Address) (s : State) : Bool :=
  match findServer a s with
  | none => false
  | some j => j != i

/-- An accepted pinning write (R94). A held entry with another address is removed first, and the majority
is recomputed once (R95, R112). -/
def pinWrite (i : Nat) (a : Address) (allowance : BitVec 16) (select : EdgeSelect) (s : State) :
    State :=
  match serverAt i s with
  | none => pinServer i a allowance select s
  | some sv =>
    if sv.address = a then
      setServer i (some { sv with pinned := true, allowance := allowance, select := select }) s
    else recomputeMajority (pinServer i a allowance select (removeServer i s))

/-- A WRITE of a server row: its remove choice is 1 to remove, else it pins (R94, R95, 12.4;
assumption 20). -/
def writeServer (i : Nat) (v : List Byte) (s : State) : Done :=
  if field 0 1 v = 1 then stored false (recomputeMajority (removeServer i s))
  else
    let a : Address := BitVec.ofNat 48 (field 1 6 v)
    match EdgeSelect.ofCode (field 9 1 v) with
    | none => refuse .badValue s
    | some select =>
      if !admissible a || heldElsewhere i a s then refuse .badValue s
      else stored false (pinWrite i a (BitVec.ofNat 16 (field 7 2 v)) select s)

/-- The drift settings changed. -/
def changeDrift (f : DriftSettings → DriftSettings) (s : State) : State :=
  { s with dtr := { s.dtr with settings := f s.dtr.settings } }

/-- The silence timeout takes a new value; a shorter one at once sends every older entry to SILENT, in
ascending index, and the majority is recomputed once (R107). -/
def setSilenceTimeout (n : Nat) (s : State) : State :=
  let shorter := n < s.dtr.settings.silenceTimeout
  let s := changeDrift (fun t => { t with silenceTimeout := n }) s
  if shorter then recomputeMajority (serverIndices.foldl (fun s i => silenceIfDue i s) s) else s

/-- The eviction time takes a new value; a shorter one at once evicts every older LEARNED SILENT entry, in
ascending index (R108). -/
def setEvictionTime (n : Nat) (s : State) : State :=
  let shorter := n < s.dtr.settings.evictionTime
  let s := changeDrift (fun t => { t with evictionTime := n }) s
  if shorter then recomputeMajority (serverIndices.foldl (fun s i => evictIfDue i s) s) else s

/-- The edge of entry `i` when silent-warn changes, if the entry is SILENT (R111). -/
def silentWarnEdge (on : Bool) (s : State) (i : Nat) : State :=
  match serverAt i s with
  | none => s
  | some sv =>
    if sv.state = .silent then giveEdge i (if on then .enter else .leave) sv.select s else s

/-- Silent-warn takes a new value; a change gives an edge for each SILENT entry (R111). -/
def setSilentWarn (on : Bool) (s : State) : State :=
  let before := s.dtr.settings.silentWarn
  let s := changeDrift (fun t => { t with silentWarn := on }) s
  if before = on then s else serverIndices.foldl (silentWarnEdge on) s

/-- A WRITE to DRIFT (R107, R108, R111, R112, R114). -/
def writeDriftSetting (i : Nat) (v : List Byte) (s : State) : Done :=
  let n := ofBe v
  match i with
  | 0 => flagWrite n s fun b => changeDrift (fun t => { t with autoLearn := b }) s
  | 1 => clampedWrite 0 7 n fun n => changeDrift (fun t => { t with k := n }) s
  | 2 => clampedWrite 4 64 n fun n => changeDrift (fun t => { t with w := n }) s
  | 3 => clampedWrite 1 1000000000 n fun n => changeDrift (fun t => { t with offsetBound := n }) s
  | 4 => clampedWrite 1 1000000 n fun n => changeDrift (fun t => { t with rateBound := n }) s
  | 5 => clampedWrite 1 15 n fun n => changeDrift (fun t => { t with confirm := n }) s
  | 6 => clampedWrite 1 2147483647 n fun n => changeDrift (fun t => { t with wildLimit := n }) s
  | 7 => clampedWrite 1 86400 n fun n => setSilenceTimeout n s
  | 8 => clampedWrite 1 604800 n fun n => setEvictionTime n s
  | 9 => flagWrite n s fun b => setSilentWarn b s
  | 10 => clampedWrite 2 48 n fun n =>
      recomputeMajority (changeDrift (fun t => { t with majorityFloor := n }) s)
  | _ => refuse .badOp s

/-! ### WRITE: WRU, DTE, RRG, RPE, EGM, MGU -/

/-- WRU's part of the state changed. -/
def changeWru (f : Wru → Wru) (s : State) : State := { s with wru := f s.wru }

/-- A WRITE of the line-enable mask: the line is decided again at once (R122, R129). -/
def setLineMask (m : BitVec 54) (s : State) : State :=
  changeWru (fun w => { w with lineMask := m, alertLine := lineAsserted w.pending m }) s

/-- A WRITE of the edge select of bit 48 or 49 (R121). -/
def writeSelect (n : Nat) (s : State) (put : EdgeSelect → State) : Done :=
  match EdgeSelect.ofCode n with
  | none => refuse .badValue s
  | some e => stored false (put e)

/-- A WRITE to WARNINGS (R121 to R123, R126, R129). Bits above 53 of a mask are ignored. -/
def writeWarning (i : Nat) (v : List Byte) (s : State) : Done :=
  let n := ofBe v
  match i with
  | 2 => stored false (setLineMask (BitVec.ofNat 54 n) s)
  | 3 => stored false (changeWru (fun w => { w with frameMask := BitVec.ofNat 54 n }) s)
  | 4 => writeSelect n s fun e => changeWru (fun w => { w with select48 := e }) s
  | 5 => writeSelect n s fun e => changeWru (fun w => { w with select49 := e }) s
  | 6 => clampedWrite 0 60000 n fun n =>
      callAlertTest (changeWru (fun w => { w with holdOff := n }) s)
  | 7 => flagWrite n s fun b => changeWru (fun w => { w with copyToManager := b }) s
  | _ => refuse .badOp s

/-- The profile at a number changed. -/
def changeProfile (p : Nat) (f : Profile → Profile) (s : State) : State :=
  { s with dte := { s.dte with profiles := s.dte.profiles.modify p f } }

/-- A WRITE to PROFILES (R154). -/
def writeProfile (i : Nat) (v : List Byte) (s : State) : Done :=
  let n := ofBe v
  if i % 9 = 0 then flagWrite n s fun b => changeProfile (i / 9) (fun p => { p with sheddable := b }) s
  else clampedWrite 1 3600 n fun n => changeProfile (i / 9) (fun p => { p with timeout := n }) s

/-- Pressure is decided again after a write of a mark, and a change of it makes the due check (R167, R168,
R180). -/
def marksChanged (s : State) : State :=
  let after := decidePressure s
  if after.rrg.pressure = s.rrg.pressure then after else dueCheck after

/-- A WRITE of the reserve (R169). -/
def writeReserve (n : Nat) (s : State) : Done :=
  if 0 < s.rrg.count then refuse .denied s
  else clampedWrite 0 256 n fun reserve =>
    let high := clampNat 2 (Config.ringSlots - reserve) s.rrg.highMark
    decidePressure { s with rrg := { s.rrg with
      reserve := reserve
      highMark := high
      lowMark := clampNat 1 (high - 1) s.rrg.lowMark } }

/-- A WRITE of the high mark, which may take the low mark with it (R168). -/
def writeHighMark (n : Nat) (s : State) : Done :=
  let high := clampNat 2 (Config.ringSlots - s.rrg.reserve) n
  let low := if high ≤ s.rrg.lowMark then high - 1 else s.rrg.lowMark
  stored (high != n || low != s.rrg.lowMark)
    (marksChanged { s with rrg := { s.rrg with highMark := high, lowMark := low } })

/-- A WRITE of the low mark (R168). -/
def writeLowMark (n : Nat) (s : State) : Done :=
  clampedWrite 1 (s.rrg.highMark - 1) n fun low =>
    marksChanged { s with rrg := { s.rrg with lowMark := low } }

/-- A WRITE to RING (R168, R169). -/
def writeRing (i : Nat) (v : List Byte) (s : State) : Done :=
  let n := ofBe v
  match i with
  | 0 => writeReserve n s
  | 1 => writeHighMark n s
  | 2 => writeLowMark n s
  | _ => refuse .badOp s

/-- RPE's part of the state changed. -/
def changeRpe (f : Rpe → Rpe) (s : State) : State := { s with rpe := f s.rpe }

/-- The report timer period takes a new value: the timer restarts from the write, or stops for 0
(R178). -/
def setReportPeriod (n : Nat) (s : State) : State :=
  changeRpe (fun r => { r with
    period := n
    timer := if n = 0 then none else some (after s.rcu.uptime (n * Config.ticksPerMs)) }) s

/-- A WRITE to REPORT (R177, R178, R180). -/
def writeReport (i : Nat) (v : List Byte) (s : State) : Done :=
  let n := ofBe v
  match i with
  | 0 => clampedWrite 1 40 n fun n => dueCheck (changeRpe (fun r => { r with threshold := n }) s)
  | 1 =>
    if n = 0 then stored false (setReportPeriod 0 s)
    else clampedWrite 125 60000 n fun n => setReportPeriod n s
  | _ => refuse .badOp s

/-- A WRITE of the defer mark (R189). -/
def writeDeferMark (p : Port) (n : Nat) (s : State) : Done :=
  clampedWrite 2048 30720 n fun n => s.setPort p { s.port p with deferMark := n }

/-- A WRITE to the PORTS entries of a port (R8, R189). -/
def writePort (p : Port) (i : Nat) (v : List Byte) (s : State) : Done :=
  let n := ofBe v
  match i with
  | 0 => writeIngressComp p n s
  | 1 => writeEgressComp p n s
  | 2 => writeDeferMark p n s
  | _ => refuse .badOp s

/-- The station settings changed. -/
def changeStation (f : Station → Station) (s : State) : State :=
  { s with mgu := { s.mgu with station := f s.mgu.station } }

/-- After a write of the collector address or port, WRU makes its test and RPE the due check (R124,
R177). -/
def collectorChanged (s : State) : State := dueCheck (alertTest s)

/-- A WRITE of the own station address (R205). -/
def writeOwn (n : Nat) (s : State) : Done :=
  let a : Address := BitVec.ofNat 48 n
  if isGroup a then refuse .badValue s else stored false (changeStation (fun t => { t with own := a }) s)

/-- A WRITE to STATION (R48, R72, R73, R177, R205). -/
def writeStation (i : Nat) (v : List Byte) (s : State) : Done :=
  let n := ofBe v
  match i with
  | 0 => writeOwn n s
  | 1 => stored false (changeStation (fun t => { t with manager := BitVec.ofNat 48 n }) s)
  | 2 => stored false (changeStation (fun t => { t with rackId := BitVec.ofNat 16 n }) s)
  | 3 => stored false (changeStation (fun t => { t with timeType := BitVec.ofNat 16 n }) s)
  | 4 => stored false (changeStation (fun t => { t with storageType := BitVec.ofNat 16 n }) s)
  | 5 => stored false (collectorChanged
      (changeStation (fun t => { t with collector := BitVec.ofNat 48 n }) s))
  | 6 => portWrite n s fun p => collectorChanged (changeStation (fun t => { t with collectorPort := p }) s)
  | 7 => stored false (changeStation (fun t => { t with timeServer := BitVec.ofNat 48 n }) s)
  | 8 => portWrite n s fun p => changeStation (fun t => { t with timeServerPort := p }) s
  | 9 => stored false (changeStation (fun t => { t with group := BitVec.ofNat 48 n }) s)
  | 10 => stored false (changeStation (fun t => { t with tagType := BitVec.ofNat 16 n }) s)
  | 11 => stored false (changeStation (fun t => { t with hashSet := BitVec.ofNat 64 n }) s)
  | _ => refuse .badOp s

/-- The port of an entry of PORTS, and the entry's number within the port (12.4). -/
def portOf (i : Nat) : Port × Nat := if i < 19 then (.u, i) else (.k, i - 19)

/-- A WRITE that has passed the checks of R202 (R204). -/
def applyWrite (t i : Nat) (v : List Byte) (s : State) : Done :=
  match t with
  | 1 => writeClock i v s
  | 2 => writeServoSetting i v s
  | 3 => writeFilter i v s
  | 4 => writeMask i v s
  | 5 => writeFloor v s
  | 6 => writeServer i v s
  | 7 => writeDriftSetting i v s
  | 8 => writeWarning i v s
  | 9 => writeProfile i v s
  | 11 => writeRing i v s
  | 13 => writeReport i v s
  | 14 => writePort (portOf i).1 (portOf i).2 v s
  | 15 => writeStation i v s
  | _ => refuse .badOp s

/-! ### SWAP -/

/-- A DSE counter zeroed, by its place in R49. -/
def DseCounters.zero (c : DseCounters) : Nat → DseCounters
  | 0 => { c with probesSent := 0 }
  | 1 => { c with probesDropped := 0 }
  | 2 => { c with probesUnsent := 0 }
  | 3 => { c with staleEchoes := 0 }
  | 4 => { c with echoStampFaults := 0 }
  | 5 => { c with upstreamUnlocked := 0 }
  | 6 => { c with delayRejects := 0 }
  | 7 => { c with gated := 0 }
  | 8 => { c with misses := 0 }
  | 9 => { c with echoesAccepted := 0 }
  | 10 => { c with dseSteps := 0 }
  | 11 => { c with offsetClamps := 0 }
  | 12 => { c with rateLimits := 0 }
  | 13 => { c with rateJumps := 0 }
  | _ => c

/-- A slot counter zeroed, by its place in R90. -/
def Slot.zero (sl : Slot) : Nat → Slot
  | 0 => { sl with sent := 0 }
  | 1 => { sl with dropped := 0 }
  | 2 => { sl with unserved := 0 }
  | 3 => { sl with overruns := 0 }
  | _ => sl

/-- A DTR counter zeroed, by its place in R116. -/
def DtrCounters.zero (c : DtrCounters) : Nat → DtrCounters
  | 0 => { c with tracked := 0 }
  | 1 => { c with untracked := 0 }
  | 2 => { c with admissions := 0 }
  | 3 => { c with evictions := 0 }
  | 4 => { c with silenced := 0 }
  | 5 => { c with wild := 0 }
  | 6 => { c with windows := 0 }
  | 7 => { c with heldEvaluations := 0 }
  | _ => c

/-- A WRU counter zeroed, by its place in R130. -/
def WruCounters.zero (c : WruCounters) : Nat → WruCounters
  | 0 => { c with built := 0 }
  | 1 => { c with framesSent := 0 }
  | 2 => { c with managerSent := 0 }
  | 3 => { c with framesDropped := 0 }
  | 4 => { c with managerOmitted := 0 }
  | _ => c

/-- A profile counter zeroed, by its place in R134. -/
def Profile.zero (p : Profile) : Nat → Profile
  | 0 => { p with dated := 0 }
  | 1 => { p with completed := 0 }
  | 2 => { p with timedOut := 0 }
  | 3 => { p with reused := 0 }
  | 4 => { p with shed := 0 }
  | 5 => { p with undated := 0 }
  | 6 => { p with unmatched := 0 }
  | _ => p

/-- An RRG counter zeroed, by its place in R175. -/
def RrgCounters.zero (c : RrgCounters) : Nat → RrgCounters
  | 0 => { c with written := 0 }
  | 1 => { c with lostStorage := 0 }
  | 2 => { c with lostNotice := 0 }
  | 3 => { c with delivered := 0 }
  | 4 => { c with flushed := 0 }
  | 5 => { c with pressureOnsets := 0 }
  | _ => c

/-- An RPE counter zeroed, by its place in R185. -/
def RpeCounters.zero (c : RpeCounters) : Nat → RpeCounters
  | 0 => { c with built := 0 }
  | 1 => { c with sent := 0 }
  | 2 => { c with dropped := 0 }
  | _ => c

/-- An ingress counter zeroed, by its place in R74. -/
def IngressCounters.zero (c : IngressCounters) : Nat → IngressCounters
  | 0 => { c with framesIn := 0 }
  | 1 => { c with badEnds := 0 }
  | 2 => { c with unclassified := 0 }
  | 3 => { c with misdirected := 0 }
  | 4 => { c with malformed := 0 }
  | 5 => { c with overruns := 0 }
  | _ => c

/-- An EGM counter zeroed, by its place in R198. -/
def EgmCounters.zero (c : EgmCounters) : Nat → EgmCounters
  | 0 => { c with passSent := 0 }
  | 1 => { c with originatedSent := 0 }
  | 2 => { c with bufferFull := 0 }
  | 3 => { c with linkDrops := 0 }
  | 4 => { c with originatedDrops := 0 }
  | 5 => { c with forcedBadEnds := 0 }
  | 6 => { c with residenceSaturations := 0 }
  | _ => c

/-- An MGU counter zeroed, by its place in R216. -/
def MguCounters.zero (c : MguCounters) : Nat → MguCounters
  | 0 => { c with accepted := 0 }
  | 1 => { c with refusedSource := 0 }
  | 2 => { c with busyDrops := 0 }
  | 3 => { c with malformed := 0 }
  | 4 => { c with responsesSent := 0 }
  | 5 => { c with responsesDropped := 0 }
  | _ => c

/-- A server entry with its query count zeroed (R115). -/
def zeroQueries (sv : Server) : Server := { sv with queries := 0 }

/-- The counters of PORTS zeroed, by their place in the port (R74, R198). -/
def zeroPortCounter (p : Port) (i : Nat) (s : State) : State :=
  if i < 12 then s.countIngress p fun c => c.zero (i - 6) else s.countEgress p fun c => c.zero (i - 12)

/-- A counter of PROFILES zeroed (R154). -/
def zeroProfileCounter (i : Nat) (s : State) : State :=
  if i = 72 then { s with dte := { s.dte with discarded := 0 } }
  else changeProfile (i / 9) (fun p => p.zero (i % 9 - 2)) s

/-- The counter at an entry zeroed (R202). -/
def zeroCounter (t i : Nat) (s : State) : State :=
  match t with
  | 2 => countDse (fun c => c.zero (i - 24)) s
  | 3 => { s with fcl := { s.fcl with
      filters := s.fcl.filters.modify (i - 32) fun f => { f with hits := 0 } } }
  | 5 => changeSlot ((i - 1) / 6) (fun sl => sl.zero ((i - 1) % 6 - 1)) s
  | 6 => { s with dtr := { s.dtr with
      servers := s.dtr.servers.modify (i - 48) (Option.map zeroQueries) } }
  | 7 => countDtr (fun c => c.zero (i - 14)) s
  | 8 => changeWru (fun w => { w with ctr := w.ctr.zero (i - 60) }) s
  | 9 => zeroProfileCounter i s
  | 11 => { s with rrg := { s.rrg with ctr := s.rrg.ctr.zero (i - 9) } }
  | 13 => changeRpe (fun r => { r with ctr := r.ctr.zero (i - 6) }) s
  | 14 => zeroPortCounter (portOf i).1 (portOf i).2 s
  | 15 => { s with mgu := { s.mgu with ctr := s.mgu.ctr.zero (i - 13) } }
  | _ => s

/-- A SWAP of a counter: the value must be zero (R202). -/
def swapCounter (t i : Nat) (v old : List Byte) (s : State) : Done :=
  if ofBe v = 0 then { status := .ok, data := old, state := zeroCounter t i s } else refuse .badValue s

/-- A SWAP of the overrun flag of slot `n` (R85, R89). -/
def swapOverrun (n : Nat) (v old : List Byte) (s : State) : Done :=
  { flagWrite (ofBe v) s fun b => changeSlot n (fun sl => { sl with overrunFlag := b }) s with
    data := if ofBe v ≤ 1 then old else [] }

/-- Whether a SWAP of the pending set sets a frame-enabled bit (R123, R128). -/
def raisesDue (w : Wru) (new : BitVec 54) : Bool := new &&& ~~~w.pending &&& w.frameMask != 0

/-- The pending set replaced by a SWAP (R122, R123, R128). -/
def setPending (new : BitVec 54) (s : State) : State :=
  changeWru (fun w => { w with
    pending := new
    alertLine := lineAsserted new w.lineMask
    alertDue := w.alertDue || raisesDue w new
    testDue := w.testDue || (raisesDue w new && !w.alertDue) }) s

/-- A SWAP of the alert-due flag; setting it makes the alert test (R129; a value other than 0 or 1 is
refused: assumption 20). -/
def setAlertDue (b : Bool) (s : State) : State :=
  changeWru (fun w => { w with alertDue := b, testDue := w.testDue || b }) s

/-- A SWAP to WARNINGS (R128 to R130). -/
def swapWarning (i : Nat) (v old : List Byte) (s : State) : Done :=
  match i with
  | 0 => { status := .ok, data := old, state := setPending (BitVec.ofNat 54 (ofBe v)) s }
  | 8 => { flagWrite (ofBe v) s fun b => setAlertDue b s with
      data := if ofBe v ≤ 1 then old else [] }
  | _ => swapCounter 8 i v old s

/-- A SWAP that has passed the checks of R202 (R204). -/
def applySwap (t i : Nat) (v old : List Byte) (s : State) : Done :=
  match t with
  | 5 => if (i - 1) % 6 = 5 then swapOverrun ((i - 1) / 6) v old s else swapCounter 5 i v old s
  | 8 => swapWarning i v old s
  | _ => swapCounter t i v old s

/-! ### DO (11.5) -/

/-- SET_TIME with the ingress record of its frame (R12). -/
def doSetTime (ing : Ingress) (args : List Byte) (s : State) : Done :=
  let g := stampAt 0 args
  let n := g.nanos - ing.stamp.nanos
  if 999999999 < g.ns.toNat then refuse .badValue s
  else if s.rcu.epoch ≠ ing.epoch then refuse .denied s
  else if n < -9223372036854775808 ∨ 9223372036854775807 < n then refuse .badValue s
  else if stepInRange n s then stored false (applyStep ((s.rcu.time.nanos : Int) + n).toNat s)
  else refuse .badValue s

/-- STEP (R10). -/
def doStep (args : List Byte) (s : State) : Done :=
  let n := signed 8 (ofBe args)
  if stepInRange n s then stored false (applyStep ((s.rcu.time.nanos : Int) + n).toNat s)
  else refuse .badValue s

/-- What DISCIPLINE_START does in DSE (R23): the probe timer expires at once, by a command of its own
(assumption 17). -/
def startDiscipline (s : State) : State :=
  let s := invalidateProbe s
  let s := { s with dse := { s.dse with
    window := []
    missRun := 0
    lockInRun := 0
    unlockRun := 0
    lockCount := 0
    lastOffset := none
    growthTimer := none } }
  let s := setDState .acquire s
  { s with dse := { s.dse with probeTimer := some s.rcu.uptime } }

/-- DISCIPLINE_START (R23). -/
def doStart (s : State) : Done :=
  if s.mgu.station.timeServer = 0 then refuse .denied s else stored false (startDiscipline s)

/-- What DISCIPLINE_STOP does (R24). -/
def stopDiscipline (s : State) : State :=
  let s := invalidateProbe s
  let s := { s with dse := { s.dse with probeTimer := none, growthTimer := none } }
  setDState .idle (withdrawPhase s.rcu.f s)

/-- RING_FLUSH (R171, R172). -/
def doFlush (s : State) : Done :=
  match s.rpe.inFlight with
  | some _ => { status := .ok, data := be 2 0 ++ be 1 1,
                state := changeRpe (fun r => { r with deferredFlush := true }) s }
  | none => { status := .ok, data := be 2 s.rrg.count ++ be 1 0, state := flushRing s }

/-- REPORT_NOW (R179). -/
def doReportNow (s : State) : Done :=
  let s := changeRpe (fun r => { r with reportNow := true }) s
  { status := .ok, data := flagOctet (reportCanBuild s), state := dueCheck s }

/-- The MARK record of a value, dated and rated at this instant (R159, R163). -/
def markRecord (value : List Byte) (s : State) : Record :=
  { quality := quality s, date := s.rcu.time.stamp, body := .mark value }

/-- MARK (R163). -/
def doMark (value : List Byte) (s : State) : Done :=
  { status := .ok
    data := be 2 s.rrg.seq.toNat ++ flagOctet (s.rrg.count < Config.ringSlots)
    state := offer (markRecord value s) s }

/-- RESET_DATING (R153). -/
def doResetDating (s : State) : Done :=
  let n := openCount s
  { status := .ok
    data := be 2 n
    state := { s with dte := { s.dte with
      exchanges := s.dte.exchanges.map fun _ => none
      discarded := addCount s.dte.discarded n } } }

/-- A PINNED entry returned to PROBATION by RESET_TRACKING (R113). -/
def restartedServer (sv : Server) (now : Uptime) : Server :=
  { sv with
    state := .probation
    fo := none
    drift := none
    lastTi := none
    sampleEpoch := none
    lastSample := none
    windowCount := 0
    run := 0
    lastQuery := now }

/-- Entry `i` at RESET_TRACKING: a LEARNED one is removed, a PINNED one returns to PROBATION (R113). -/
def resetServer (s : State) (i : Nat) : State :=
  match serverAt i s with
  | none => s
  | some sv =>
    if sv.pinned then
      let new := restartedServer sv s.rcu.uptime
      let s := setServer i (some new) s
      let s := if sv.state = .drifting then
          serverNotice i new (some .drifting) (some .probation) .leaveDrift s
        else s
      giveChange i (warns s.dtr.settings.silentWarn sv.state) false sv.select s
    else clearServer i sv .removed s

/-- RESET_TRACKING (R113). -/
def doResetTracking (s : State) : Done :=
  if (quality s).code < 4 then refuse .denied s
  else stored false (recomputeMajority (serverIndices.foldl resetServer s))

/-- A profile with its counters zeroed. -/
def zeroProfile (p : Profile) : Profile := { sheddable := p.sheddable, timeout := p.timeout }

/-- A slot with its counters zeroed; its overrun flag is kept (R210). -/
def zeroSlot (sl : Slot) : Slot := { answer := sl.answer, overrunFlag := sl.overrunFlag }

/-- Every counter of the part is zeroed (R210). -/
def resetCounters (s : State) : State :=
  { s with
    dse := { s.dse with ctr := {} }
    fcl := { s.fcl with
      filters := s.fcl.filters.map fun f => { f with hits := 0 }
      ctr := ⟨{}, {}⟩ }
    anu := { s.anu with slots := s.anu.slots.map zeroSlot }
    dtr := { s.dtr with
      servers := s.dtr.servers.map (Option.map zeroQueries)
      ctr := {} }
    wru := { s.wru with ctr := {} }
    dte := { s.dte with profiles := s.dte.profiles.map zeroProfile, discarded := 0 }
    rrg := { s.rrg with ctr := {} }
    rpe := { s.rpe with ctr := {} }
    egm := ⟨{ s.egm.u with ctr := {} }, { s.egm.k with ctr := {} }⟩
    mgu := { s.mgu with ctr := {} } }

/-- The width of the arguments of a command; none for a code that names no command (12.2). -/
def argumentWidth (code : Nat) : Option Nat :=
  match code with
  | 1 => some 10
  | 2 => some 8
  | 7 => some 16
  | 3 | 4 | 5 | 6 | 8 | 9 | 10 | 11 => some 0
  | _ => none

/-- A DO command that has passed the checks of R202 (R209). PART_RESET itself only returns OK (R201). -/
def applyDo (ing : Ingress) (code : Nat) (args : List Byte) (s : State) : Done :=
  match code with
  | 1 => doSetTime ing args s
  | 2 => doStep args s
  | 3 => doStart s
  | 4 => stored false (stopDiscipline s)
  | 5 => doFlush s
  | 6 => doReportNow s
  | 7 => doMark args s
  | 8 => doResetDating s
  | 9 => doResetTracking s
  | 10 => stored false (resetCounters s)
  | _ => stored false s

/-! ### A request (11.2, 12.2) -/

/-- One request of a management frame. -/
structure Request where
  kind : Nat
  table : Nat
  index : Nat
  param : List Byte
deriving DecidableEq, Repr

/-- READ of entries `i` on, the table's entries being `l` (R203). -/
def doRead (l : List (List Byte)) (i : Nat) (param : List Byte) (s : State) : Done :=
  if param.length = 1 ∧ 1 ≤ ofBe param ∧ ofBe param ≤ 4 then
    let got := (l.drop i).take (ofBe param)
    { status := .ok, data := be 1 got.length ++ got.flatten, state := s }
  else refuse .badValue s

/-- WRITE of an entry (R202, R204). -/
def doWrite (t i : Nat) (v : List Byte) (s : State) : Done :=
  match access t i with
  | .write w => if v.length = w then applyWrite t i v s else refuse .badValue s
  | .readOnly => refuse .badOp s
  | .swap _ => refuse .badOp s

/-- SWAP of an entry whose octets are `old` (R202, R204). -/
def doSwap (t i : Nat) (v old : List Byte) (s : State) : Done :=
  match access t i with
  | .swap w => if v.length = w then applySwap t i v old s else refuse .badValue s
  | .readOnly => refuse .badOp s
  | .write _ => refuse .badOp s

/-- READ, WRITE or SWAP of an entry, with its table and index checked first (R202). -/
def doEntry (r : Request) (s : State) : Done :=
  match tableEntries s r.table with
  | none => refuse .badTable s
  | some l =>
    match l[r.index]? with
    | none => refuse .badIndex s
    | some old =>
      match r.kind with
      | 1 => doRead l r.index r.param s
      | 2 => doWrite r.table r.index r.param s
      | _ => doSwap r.table r.index r.param old s

/-- DO (R202, R209). A parameter without a command code names no command (assumption 20). -/
def doCommand (ing : Ingress) (param : List Byte) (s : State) : Done :=
  match param with
  | [] => refuse .badOp s
  | code :: args =>
    match argumentWidth code.toNat with
    | none => refuse .badOp s
    | some w => if args.length = w then applyDo ing code.toNat args s else refuse .badValue s

/-- A request is executed to its end (R201, R202). -/
def execute (ing : Ingress) (r : Request) (s : State) : Done :=
  if r.kind = 4 then doCommand ing r.param s
  else if 1 ≤ r.kind ∧ r.kind ≤ 3 then doEntry r s
  else refuse .badOp s

/-- Whether a request is a PART_RESET that executes (R201). -/
def Request.isPartReset (r : Request) : Bool := r.kind == 4 && r.param == [11]

/-- The result of a request (12.2). -/
def resultOctets (r : Request) (status : Status) (data : List Byte) : List Byte :=
  be 1 r.kind ++ be 1 r.table ++ be 2 r.index ++ be 1 status.code ++ be 2 data.length ++ data

/-- The next request of a body, and the octets after it, if it lies wholly within them (R200, 12.2). -/
def parseRequest (l : List Byte) : Option (Request × List Byte) :=
  if 6 ≤ l.length then
    let n := field 4 2 l
    if 6 + n ≤ l.length then
      some ({ kind := field 0 1 l, table := field 1 1 l, index := field 2 2 l, param := slice 6 n l },
        l.drop (6 + n))
    else none
  else none

/-- `n` requests, back to back. -/
def parseRequests : Nat → List Byte → Option (List Request)
  | 0, _ => some []
  | n + 1, l =>
    match parseRequest l with
    | none => none
    | some (r, rest) => (parseRequests n rest).map (r :: ·)

/-- The requests of a body that passes the form test (R200 step 3). -/
def requestsOf (body : List Byte) : Option (List Request) :=
  match body with
  | [] => none
  | n :: rest => if 1 ≤ n.toNat ∧ n.toNat ≤ 8 then parseRequests n.toNat rest else none

/-- What the requests of a frame have come to so far. -/
structure Progress where
  state : State
  results : List Byte := []
  resetting : Bool := false

/-- One request of a frame is executed to its end, alerts included, or skipped after a PART_RESET (R201).
The model's own serial advances with each request. -/
def takeRequest (ing : Ingress) (g : Progress) (r : Request) : Progress :=
  if g.resetting then { g with results := g.results ++ resultOctets r .skipped [] }
  else
    let d := execute ing r { g.state with serial := g.state.serial + 1 }
    { state := finish d.state
      results := g.results ++ resultOctets r d.status d.data
      resetting := r.isPartReset }

/-! ### The frame and its response (R200, R207) -/

/-- The MGU counters changed. -/
def countMgu (f : MguCounters → MguCounters) (s : State) : State :=
  { s with mgu := { s.mgu with ctr := f s.mgu.ctr } }

/-- The MGMT_RSP to a request frame, with these results (R207). -/
def responseFrame (a : Arriving) (n : Nat) (results : List Byte) (s : State) : List Byte :=
  gtpFrame (sourceAddress a.octets) s.mgu.station.own (tagOf a.settings a.octets)
    s.mgu.station.timeType 6 (gtpDomain a.settings a.octets) 0 (gtpSequence a.settings a.octets)
    (be 1 n ++ results)

/-- The response is put into the response buffer and queued to the arrival port, or dropped at once if its
link is DOWN (R197, R207, R208). -/
def queueResponse (p : Port) (octets : List Byte) (resets : Bool) (s : State) : State :=
  let s := { s with mgu := { s.mgu with
    response := some { octets := octets, port := p, resetPending := resets } } }
  if (s.port p).link then pushEntry p .response s else responseDropped (countDrop p s)

/-- An accepted frame: the manager port becomes its arrival port, its requests are executed one after
another, and its response is formed and queued (R200, R201, R207). -/
def acceptRequests (p : Port) (a : Arriving) (rs : List Request) (s : State) : State :=
  let s := countMgu (fun c => { c with accepted := bump c.accepted })
    { s with mgu := { s.mgu with managerPort := p } }
  let g := rs.foldl (takeRequest a.ingress) { state := s }
  queueResponse p (responseFrame a rs.length g.results g.state) g.resetting g.state

/-- Whether a frame passes the manager check (R200 step 1). -/
def fromManager (a : Arriving) (s : State) : Bool :=
  s.mgu.station.manager == 0 || sourceAddress a.octets == s.mgu.station.manager

/-- MGU is handed a MGMT_REQ at its good end (R200). -/
def takeManagement (p : Port) (a : Arriving) (s : State) : State :=
  if !fromManager a s then countMgu (fun c => { c with refusedSource := bump c.refusedSource }) s
  else if s.mgu.response.isSome then countMgu (fun c => { c with busyDrops := bump c.busyDrops }) s
  else
    match requestsOf (gtpBody a.settings a.octets) with
    | none => countMgu (fun c => { c with malformed := bump c.malformed }) s
    | some rs => acceptRequests p a rs s

/-- MGMT_REQ_END (R200, R201): a MGMT_REQ for the part ends good. -/
def execMgmtReqEnd (p : Port) (flow : Flow) (s : State) : Host.Outcome State Fault Refusal :=
  .next (finish (endsGood p flow (fun c => c == .mgmtReq) (takeManagement p) s))

end Sys2Proof.Machine
end

