-- ==== Sys2Proof/Machine/RackClock.lean ====
section
/-! DEFINITION. The rack clock's own events: the meanings of OSCILLATOR_TICK and PULSE_WIDTH_EXPIRY
(1; R1, R5, R17, R18, R20). -/

namespace Sys2Proof.Machine

/-- The tick increment I = 8 × 2^32 + K, in 2^-32 ns (1.1). K never reaches -8 × 2^32. -/
def tickIncrement (k : Int) : Nat := (34359738368 + k).toNat

/-- Nanoseconds and fraction as one count of 2^-32 ns, after a tick has added I (R1). -/
def tickSum (t : TimeCounter) (k : Int) : Nat :=
  t.ns.toNat * 4294967296 + t.frac.toNat + tickIncrement k

/-- Whether the tick carries the nanoseconds past 999,999,999 (R1). -/
def secondCarry (t : TimeCounter) (k : Int) : Bool := 1000000000 * 4294967296 ≤ tickSum t k

/-- The time counter after a tick: the fraction carries into the nanoseconds, a whole second of them into
the seconds, and the seconds return from 2^48 - 1 to 0 (R1). -/
def TimeCounter.tick (t : TimeCounter) (k : Int) : TimeCounter :=
  let sum := tickSum t k
  let carry := secondCarry t k
  let rest := if carry then sum - 1000000000 * 4294967296 else sum
  { sec := if carry then t.sec + 1 else t.sec
    ns := BitVec.ofNat 32 (rest / 4294967296)
    frac := BitVec.ofNat 32 (rest % 4294967296) }

/-- The counters after a tick (R1, R5). -/
def tickCounters (s : State) : State :=
  { s with rcu := { s.rcu with
    time := s.rcu.time.tick s.rcu.k
    uptime := s.rcu.uptime + 1 } }

/-- A second pulse begins: the output is asserted and the width timer starts (R17). -/
def startPulse (s : State) : State :=
  { s with rcu := { s.rcu with
    pulse := true
    pulseTimer := some (after s.rcu.uptime Config.pulseTicks) } }

/-- Whether a second pulse begins at this tick (R17). -/
def pulseBegins (s : State) : Bool :=
  secondCarry s.rcu.time s.rcu.k && !s.rcu.pulse && s.rcu.pulseFloor.code ≤ (quality s).code

/-- OSCILLATOR_TICK (R1, R5, R17): the counters tick, and a second carry may begin a pulse. They tick from
the release of the reset input on (R20). -/
def execOscillatorTick (s : State) : Host.Outcome State Fault Refusal :=
  if s.resetHeld then .next s
  else .next (if pulseBegins s then startPulse (tickCounters s) else tickCounters s)

/-- PULSE_WIDTH_EXPIRY (R18): the width timer expires and the output is released. -/
def execPulseWidthExpiry (s : State) : Host.Outcome State Fault Refusal :=
  if timerReached s.rcu.uptime s.rcu.pulseTimer then
    .next { s with rcu := { s.rcu with pulse := false, pulseTimer := none } }
  else .next s

end Sys2Proof.Machine
end

