-- ==== Sys2Proof/Machine/Timers.lean ====
section
/-! DEFINITION. The timers of the warnings and of the reports: the meanings of HOLD_OFF_EXPIRY and
REPORT_TIMER_EXPIRY (6.3, 9.1; R124, R126, R178, R180). -/

namespace Sys2Proof.Machine

/-- HOLD_OFF_EXPIRY (R124): the hold-off has expired, so WRU makes the alert build test, which reads the
hold-off itself. -/
def execHoldOffExpiry (s : State) : Host.Outcome State Fault Refusal := .next (alertTest s)

/-- What an expiry of the report timer does: it reloads for one period, the timer-due flag is set, and the
due check is made (R178). -/
def reportExpiry (s : State) : State :=
  dueCheck { s with rpe := { s.rpe with
    timer := s.rpe.timer.map fun t => after t (s.rpe.period * Config.ticksPerMs)
    timerDue := true } }

/-- REPORT_TIMER_EXPIRY (R178): if the timer's expiry uptime has been reached, it expires once. -/
def execReportTimerExpiry (s : State) : Host.Outcome State Fault Refusal :=
  if timerReached s.rcu.uptime s.rpe.timer then .next (reportExpiry s) else .next s

end Sys2Proof.Machine
end

