-- ==== Sys2Proof/Machine/Dispatch.lean ====
section
/-! DEFINITION. The meaning of each command: one arm per constructor of Instr, each one call. -/

namespace Sys2Proof.Machine

/-- The effect of a command on everything but the queue of commands. -/
def exec (i : Instr) (s : State) : Host.Outcome State Fault Refusal :=
  match i with
  | .hardReset => Sys2Proof.Machine.execHardReset s
  | .bootReadEnd reply => Sys2Proof.Machine.execBootReadEnd reply s
  | .bootReadTimeout => Sys2Proof.Machine.execBootReadTimeout s
  | .oscillatorTick => Sys2Proof.Machine.execOscillatorTick s
  | .pulseWidthExpiry => Sys2Proof.Machine.execPulseWidthExpiry s
  | .phaseTimerExpiry => Sys2Proof.Machine.execPhaseTimerExpiry s
  | .frameStart p flow first => Sys2Proof.Machine.execFrameStart p flow first s
  | .forPartDecision p flow => Sys2Proof.Machine.execForPartDecision p flow s
  | .gtpTransitWalk p flow => Sys2Proof.Machine.execGtpTransitWalk p flow s
  | .passThroughReady p flow => Sys2Proof.Machine.execPassThroughReady p flow s
  | .frameEnd p flow => Sys2Proof.Machine.execFrameEnd p flow s
  | .frameBadEnd p flow => Sys2Proof.Machine.execFrameBadEnd p flow s
  | .queryEnd p flow => Sys2Proof.Machine.execQueryEnd p flow s
  | .echoEnd p flow => Sys2Proof.Machine.execEchoEnd p flow s
  | .probeTimerExpiry => Sys2Proof.Machine.execProbeTimerExpiry s
  | .growthTimerExpiry => Sys2Proof.Machine.execGrowthTimerExpiry s
  | .storageCommandEnd p flow => Sys2Proof.Machine.execStorageCommandEnd p flow s
  | .storageCompletionEnd p flow => Sys2Proof.Machine.execStorageCompletionEnd p flow s
  | .exchangeDeadline deadline => Sys2Proof.Machine.execExchangeDeadline deadline s
  | .reportTimerExpiry => Sys2Proof.Machine.execReportTimerExpiry s
  | .holdOffExpiry => Sys2Proof.Machine.execHoldOffExpiry s
  | .serverSilence n => Sys2Proof.Machine.execServerSilence n s
  | .serverEviction n => Sys2Proof.Machine.execServerEviction n s
  | .frameBoundary p flow => Sys2Proof.Machine.execFrameBoundary p flow s
  | .egressEnd p flow => Sys2Proof.Machine.execEgressEnd p flow s
  | .linkLoss p flow => Sys2Proof.Machine.execLinkLoss p flow s
  | .linkUp p => Sys2Proof.Machine.execLinkUp p s
  | .mgmtReqEnd p flow => Sys2Proof.Machine.execMgmtReqEnd p flow s
  | .resetInputRelease => Sys2Proof.Machine.execResetInputRelease s

end Sys2Proof.Machine
end

