-- ==== Sys2Proof/Safety.lean ====
section
/-! DEFINITION. What is true of the part between commands: the invariants that the rules state of its
blocks, in the terms the statements use. -/

namespace Sys2Proof.Safety

open Sys2Proof.Machine

/-- A command's outcome is a next state with this property. -/
def Next (o : Host.Outcome State Fault Refusal) (P : State → Prop) : Prop :=
  ∃ t, o = .next t ∧ P t

/-- Every step from a state with the property that answers a next state answers one with it. -/
def KeptBySteps (P : State → Prop) : Prop :=
  ∀ s t : State, P s → step s = .next t → P t

/-- Rack time lies in its valid range (1.5.1): the widths bound the seconds and the fraction. -/
abbrev TimeValid (s : State) : Prop := s.rcu.time.ns.toNat < 1000000000

/-- F lies in its range, and A and K are those of F and S (R2, R3). -/
abbrev RateConsistent (s : State) : Prop :=
  -Config.rateLimit ≤ s.rcu.f ∧ s.rcu.f ≤ Config.rateLimit ∧
    s.rcu.a = appliedRate s.rcu.f s.rcu.s ∧ s.rcu.k = increment s.rcu.a

/-- S is 0 in IDLE, HOLDOVER and FREERUN, and in the last two F is the holdover rate (R19, R24, R44). -/
abbrev HoldoverRateKept (s : State) : Prop :=
  (s.dse.state = .idle ∨ s.dse.state = .holdover ∨ s.dse.state = .freerun → s.rcu.s = 0) ∧
    (s.dse.state = .holdover ∨ s.dse.state = .freerun → s.rcu.f = s.dse.holdoverRate)

/-- The timers of DSE run in the states that run them, and no probe is outstanding in IDLE (R25, R29,
R45). -/
abbrev DisciplineTimers (s : State) : Prop :=
  (s.dse.probeTimer.isSome ↔ s.dse.state ≠ .idle) ∧
    (s.dse.growthTimer.isSome ↔ s.dse.state = .holdover) ∧
    (s.dse.state = .idle → s.dse.outstanding = none)

/-- The pointers of the ring agree with what it holds, and its settings lie in their ranges (R158, R168,
R169). -/
abbrev RingConsistent (s : State) : Prop :=
  s.rrg.held.length = s.rrg.count ∧ s.rrg.count ≤ Config.ringSlots ∧
    s.rrg.oldest < Config.ringSlots ∧
    s.rrg.next = (s.rrg.oldest + s.rrg.count) % Config.ringSlots ∧
    s.rrg.reserve ≤ 256 ∧ 2 ≤ s.rrg.highMark ∧ s.rrg.highMark ≤ Config.ringSlots - s.rrg.reserve ∧
    1 ≤ s.rrg.lowMark ∧ s.rrg.lowMark < s.rrg.highMark

/-- Pressure is on only above the low mark and off only below the high mark (R167). -/
abbrev PressureConsistent (s : State) : Prop :=
  if s.rrg.pressure then s.rrg.lowMark < s.rrg.count else s.rrg.count < s.rrg.highMark

/-- The report in flight carries the oldest records of the ring (R182). -/
abbrev ReportHeld (s : State) : Prop :=
  match s.rpe.inFlight with
  | none => True
  | some r => 0 < r.n ∧ r.n ≤ Config.reportMax ∧ r.n ≤ s.rrg.count ∧ firstSequence s = r.first

/-- The alert line is asserted exactly when a pending bit has its line-enable bit set (R122). -/
abbrev AlertLineDriven (s : State) : Prop :=
  s.wru.alertLine = lineAsserted s.wru.pending s.wru.lineMask

/-- The tables keep their sizes (R62, R63, R85, R92, R134, R135). -/
abbrev TableSizes (s : State) : Prop :=
  s.fcl.filters.length = 32 ∧ s.fcl.masks.length = 4 ∧ s.anu.slots.length = 8 ∧
    s.dtr.servers.length = 48 ∧ s.dte.profiles.length = 8 ∧ s.dte.exchanges.length = 256

/-- The addresses of the server entries that are not EMPTY. -/
def serverAddresses (s : State) : List Address :=
  s.dtr.servers.filterMap fun e => e.map Server.address

/-- No two server entries hold one address (R92 to R94). -/
abbrev ServersDistinct (s : State) : Prop := (serverAddresses s).Nodup

/-- The keys of the OPEN exchange entries. -/
def exchangeKeys (s : State) : List ExchangeKey :=
  s.dte.exchanges.filterMap fun e => e.map Exchange.key

/-- No two OPEN exchange entries hold one key (R135). -/
abbrev ExchangesDistinct (s : State) : Prop := (exchangeKeys s).Nodup

/-- The warning condition of a server entry; an EMPTY entry's is false (R111). -/
def entryWarns (silentWarn : Bool) : Option Server → Bool
  | none => false
  | some sv => warns silentWarn sv.state

/-- The condition set is true exactly where the conditions are (R119). -/
abbrev ConditionsAgree (s : State) : Prop :=
  (∀ i : Fin 48, s.wru.condition.getLsbD i.val =
      entryWarns s.dtr.settings.silentWarn (s.dtr.servers.getD i.val none)) ∧
    s.wru.condition.getLsbD 48 = s.dse.state.unlocked ∧
    s.wru.condition.getLsbD 49 = s.dtr.majority

/-- The number of entries of a port's queue that name a source. -/
def entriesOf (src : Source) (s : State) (p : Port) : Nat :=
  (s.port p).queue.countP fun e => e.source == src

/-- A source that a port's owner has one frame for is named by one entry of that port's queue and none of
the other's; a source without a frame is named by no entry (R79, R190). -/
abbrev NamedOn (src : Source) (on : Option Port) (s : State) : Prop :=
  match on with
  | none => entriesOf src s .u = 0 ∧ entriesOf src s .k = 0
  | some p => entriesOf src s p = 1 ∧ entriesOf src s p.other = 0

/-- The port of the answer in a slot, if the slot is not FREE. -/
def slotPort (s : State) (n : Nat) : Option Port := (s.anu.slots.getD n {}).answer.map Answer.port

/-- The number of copies of the alert in progress that are QUEUED or SENDING on a port. -/
def alertHeld (s : State) (p : Port) : Nat :=
  match s.wru.alert with
  | none => 0
  | some a => a.heldOn p

/-- The number of copies of the alert in progress that are SENDING on a port. -/
def alertSending (s : State) (p : Port) : Nat :=
  match s.wru.alert with
  | none => 0
  | some a => (if a.collector.sendingOn p then 1 else 0) + (match a.manager with
    | none => 0
    | some m => if m.sendingOn p then 1 else 0)

/-- The source of the originated frame in egress on a port. -/
def ownInEgress (s : State) (p : Port) : Option Source :=
  match (s.port p).egress with
  | some (.own src _ _) => some src
  | some (.pass _ _) => none
  | none => none

/-- The queue of a port agrees with what leaves: the entry IN_EGRESS is that of the originated frame in
egress; a port whose link is DOWN queues and sends nothing (R190, R197). -/
abbrev QueueAgrees (s : State) (p : Port) : Prop :=
  ((s.port p).queue.filter QueueEntry.inEgress).map QueueEntry.source =
      (ownInEgress s p).toList ∧
    ((s.port p).link = false → (s.port p).queue = [] ∧ (s.port p).egress = none) ∧
    (∀ e ∈ (s.port p).queue, match e.source with
      | .slot n => n < 8
      | .probe => True
      | .response => True
      | .alert => True
      | .report => True) ∧
    entriesOf .alert s p = min 1 (alertHeld s p) ∧
    alertSending s p = (if ownInEgress s p = some .alert then 1 else 0)

/-- The origination queues agree with the frames that their owners hold (R79, R190): each source stands in
at most one entry of one queue, but for the alert, which has at most one entry in each. -/
abbrev QueuesConsistent (s : State) : Prop :=
  s.anu.slots.length = 8 ∧
    (∀ n : Fin 8, NamedOn (.slot n.val) (slotPort s n.val) s) ∧
    NamedOn .probe (s.dse.frame.map ProbeFrame.port) s ∧
    NamedOn .response (s.mgu.response.map Response.port) s ∧
    NamedOn .report (s.rpe.inFlight.map InFlight.port) s ∧
    QueueAgrees s .u ∧ QueueAgrees s .k

/-- No queue holds more than 12 entries (R190). -/
abbrev QueuesBounded (s : State) : Prop :=
  (s.port .u).queue.length ≤ 12 ∧ (s.port .k).queue.length ≤ 12

/-- The rate history holds at most 4 values of the range of F (R3, R43). -/
abbrev HistoryInRange (s : State) : Prop :=
  s.dse.history.length ≤ 4 ∧
    ∀ f ∈ s.dse.history, -Config.rateLimit ≤ f ∧ f ≤ Config.rateLimit

/-! ### Words of the statements -/

/-- Rack time as one count of 2^-32 ns. -/
def timeUnits (t : TimeCounter) : Nat := t.nanos * 4294967296 + t.frac.toNat

/-- The frame arriving on port `p` is `a`, and it ends good as a frame of class `c` (R53,
assumption 13). -/
abbrev EndsGoodAs (c : EndClass) (p : Port) (flow : Flow) (a : Arriving) (s : State) : Prop :=
  (applyFlow flow s).arriving p = some a ∧ canEndGood a = true ∧ endClass a = c

/-- What the bad end of a frame leaves in the EGM of its departure port (R54, R187): a copy in pass-through ends
so, unless it has stopped; a frame in a receive buffer moves there if there is room for it, and one past its
upper limit stands as stopped; a frame that FCL has not decided goes by the admission of its first octet; a
refused one leaves nothing. -/
def forwardedBad (a : Arriving) (how : Arrival) (e : Egm) : Egm :=
  let room := 32768 - occupancy e
  let full : Egm := { e with ctr := { e.ctr with bufferFull := bump e.ctr.bufferFull } }
  let down : Egm := { e with ctr := { e.ctr with linkDrops := bump e.ctr.linkDrops } }
  match a.course with
  | .passed => { e with buffer := e.buffer.dropLast ++ e.buffer.getLast?.toList.map fun x =>
      { x with arrival := if x.arrival = .arriving then how else x.arrival } }
  | .refused => e
  | .undecided =>
    match a.admission with
    | .room => { e with buffer := e.buffer ++
        [{ octets := a.octets.take room
           arrival := if room < a.octets.length then .stopped else how
           ingressUptime := a.ingress.uptime }] }
    | .full => full
    | .down => down
  | .forPart =>
    if e.link = false then down
    else if a.octets.length ≤ room then { e with buffer := e.buffer ++
        [{ octets := a.octets
           arrival := if lengthLimit a < a.count then .stopped else how
           ingressUptime := a.ingress.uptime }] }
    else full

/-- The ingress counters of a port after a frame begun in ACTIVE mode has ended bad on it; those of a
TRANSPARENT one do not count (R52, R53). -/
def countedBad (a : Arriving) (c : IngressCounters) : IngressCounters :=
  if a.transparent then c else { c with framesIn := bump c.framesIn, badEnds := bump c.badEnds }

/-- The state with the frame arriving on port `p` ended good and counted. -/
def ended (p : Port) (flow : Flow) (a : Arriving) (s : State) : State :=
  closeArrival p a .good (applyFlow flow s)

/-- The blocks of the part. -/
inductive Block
  | rcu | dse | fcl | anu | dtr | wru | dte | rrg | rpe | egm | mgu
deriving DecidableEq, Repr

/-- Every block but those named is as it was, and so are the reset input and the command queue. -/
abbrev SameBut (changed : List Block) (s t : State) : Prop :=
  (.rcu ∈ changed ∨ t.rcu = s.rcu) ∧ (.dse ∈ changed ∨ t.dse = s.dse) ∧
    (.fcl ∈ changed ∨ t.fcl = s.fcl) ∧ (.anu ∈ changed ∨ t.anu = s.anu) ∧
    (.dtr ∈ changed ∨ t.dtr = s.dtr) ∧ (.wru ∈ changed ∨ t.wru = s.wru) ∧
    (.dte ∈ changed ∨ t.dte = s.dte) ∧ (.rrg ∈ changed ∨ t.rrg = s.rrg) ∧
    (.rpe ∈ changed ∨ t.rpe = s.rpe) ∧ (.egm ∈ changed ∨ t.egm = s.egm) ∧
    (.mgu ∈ changed ∨ t.mgu = s.mgu) ∧ t.resetHeld = s.resetHeld ∧ t.pending = s.pending

/-- Rack time has been moved by `n` ns on command: its fraction is kept, the epoch advances, the time-set flag
and pending bit 51 are set, a STEP notice is offered, and the outstanding probe is invalidated (R9, R28). -/
abbrev TimeMoved (n : Int) (s t : State) : Prop :=
  (t.rcu.time.nanos : Int) = s.rcu.time.nanos + n ∧
    t.rcu = { s.rcu with time := t.rcu.time, epoch := s.rcu.epoch + 1, timeSet := true } ∧
    t.rcu.time.frac = s.rcu.time.frac ∧ t.wru.pending.getLsbD 51 = true ∧
    t.dse = { s.dse with outstanding := none, held := none } ∧ t.rrg.seq = s.rrg.seq + 1 ∧
    (s.rrg.count < 2048 → t.rrg.held = s.rrg.held ++
      [{ quality := quality t, seq := s.rrg.seq, date := t.rcu.time.stamp
         body := .rack .step s.dse.state s.dse.state n }]) ∧
    SameBut [.rcu, .dse, .wru, .rrg, .rpe, .egm] s t

/-- The tables of R102 to R106: the state, the watch or release count and the cause that a sample not held
gives an entry, by what the sample is. -/
def evaluation (confirm : Nat) (wild completes exceeds released : Bool) (before : SState) (run : Nat) :
    SState × Nat × Option ServerCause :=
  let watch (n : Nat) : SState × Nat × Option ServerCause :=
    if confirm ≤ n then (.drifting, 0, some .enterDrift) else (.watch, n, none)
  match before, wild with
  | .drifting, _ =>
    if wild || !released then (.drifting, 0, none)
    else if confirm ≤ run + 1 then (.inBound, 0, some .leaveDrift)
    else (.drifting, run + 1, none)
  | .silent, _ => (.silent, run, none)
  | .probation, true => (.drifting, 0, some .gross)
  | .inBound, true => (.drifting, 0, some .gross)
  | .watch, true => (.drifting, 0, some .gross)
  | .probation, false =>
    if !completes then (.probation, run, none)
    else if exceeds then watch 1
    else (.inBound, 0, none)
  | .inBound, false => if exceeds then watch 1 else (.inBound, run, none)
  | .watch, false =>
    if exceeds then watch (run + 1)
    else if released then (.inBound, 0, none)
    else (.watch, run, none)

/-- The number of server entries that are not EMPTY and have a property. -/
def serversWith (f : Server → Bool) (s : State) : Nat := s.dtr.servers.countP fun e => e.any f

/-- The majority condition and its three counts are those of the server table and the floor (R112). -/
abbrev MajorityFormed (s : State) : Prop :=
  s.dtr.evaluated = serversWith (fun sv => sv.state == .inBound || sv.state == .watch ||
      sv.state == .drifting) s ∧
    s.dtr.plus = serversWith (fun sv => sv.state == .drifting && decide (0 ≤ sv.fo.getD 0)) s ∧
    s.dtr.minus = serversWith (fun sv => sv.state == .drifting && decide (sv.fo.getD 0 < 0)) s ∧
    s.dtr.majority = decide (s.dtr.settings.majorityFloor ≤ s.dtr.evaluated ∧
      s.dtr.evaluated < 2 * max s.dtr.plus s.dtr.minus)

end Sys2Proof.Safety
end

