-- ==== Sys2Proof/Certificates/Slice0/Obligations.lean ====
section
/-! DEFINITION. The statements for the provers. -/

open Sys2Proof Sys2Proof.Machine Sys2Proof.Safety

/-! ### The queue of commands -/

/-- A step runs the command at the front of the queue on the state with the queue's rest. On an empty
queue the part idles, which is the model's choice (assumption 2). -/
def Obligations.StepRunsFrontCommand : Prop :=
  ∀ (c : Instr) (rest : List Instr) (s : State),
    (s.pending = c :: rest → step s = exec c { s with pending := rest }) ∧
      (s.pending = [] → step s = .next s)

/-- Every command answers a next state and leaves the queue of commands as it was. That no command stops
is the model's reading (assumption 2). -/
def Obligations.EveryCommandCompletes : Prop :=
  ∀ (c : Instr) (s : State), Next (exec c s) fun t => t.pending = s.pending

/-! ### Reset and boot -/

/-- HARD_RESET: from any state, every block takes its hard-reset values, its tables at their whole length; a
frame in egress is cut off with a forced bad check sequence over the octets that left, by the function of
assumption 13 (R20, R50, R75, R88, R117, R131, R157, R176, R186, R199, R205, R213). The link states are kept
as the ports' own, which is the model's choice (assumption 9), so is that a frame that is arriving is
forgotten (assumption 23), the reset input stays asserted until its release (assumption 11), and what has left
the line is the model's own record (assumption 14). -/
def Obligations.HardResetValues : Prop :=
  ∀ s : State, Next (exec .hardReset s) fun t =>
    t.rcu.time = { sec := 0, ns := 0, frac := 0 } ∧ t.rcu.uptime = 0 ∧ t.rcu.f = 0 ∧ t.rcu.s = 0 ∧
    t.rcu.a = 0 ∧ t.rcu.k = 0 ∧ t.rcu.phaseTimer = none ∧ t.rcu.epoch = 0 ∧ t.rcu.timeSet = false ∧
    t.rcu.ingressComp = ⟨0, 0⟩ ∧ t.rcu.egressComp = ⟨0, 0⟩ ∧ t.rcu.pulseFloor = .lock ∧
    t.rcu.pulse = false ∧ t.rcu.pulseTimer = none ∧
    t.dse.state = .idle ∧ t.dse.probeTimer = none ∧ t.dse.growthTimer = none ∧ t.dse.nextSeq = 0 ∧
    t.dse.outstanding = none ∧ t.dse.frame = none ∧ t.dse.held = none ∧ t.dse.window = [] ∧
    t.dse.history = [] ∧ t.dse.missRun = 0 ∧ t.dse.lockInRun = 0 ∧ t.dse.unlockRun = 0 ∧
    t.dse.lockCount = 0 ∧ t.dse.lastOffset = none ∧ t.dse.holdoverRate = 0 ∧ t.dse.u = 0 ∧
    t.dse.settings = { p := 0, gi := 4, gp := 1, delayCeiling := 1000000, gate := 2000, missLimit := 8,
                       stepThreshold := 1000000, stepInLock := false, lockWindow := 10000,
                       unlockThreshold := 100000, rateJumpLimit := 500000, holdoverBound := 100,
                       holdoverLimit := 100000, probeDomain := 0 } ∧
    t.dse.ctr = ⟨0, 0, 0, 0, 0, 0, 0, 0, 0, 0, 0, 0, 0, 0⟩ ∧
    t.fcl.filters = List.replicate 32 { enable := false, pattern := 0, maskSel := 0, action := .pass,
                                        target := 0, hits := 0 } ∧
    t.fcl.masks = List.replicate 4 (BitVec.allOnes 32) ∧ t.fcl.arriving = ⟨none, none⟩ ∧
    t.fcl.ctr = ⟨⟨0, 0, 0, 0, 0, 0⟩, ⟨0, 0, 0, 0, 0, 0⟩⟩ ∧
    t.anu.slots = List.replicate 8 { answer := none, sent := 0, dropped := 0, unserved := 0,
                                     overruns := 0, overrunFlag := false } ∧ t.anu.floor = .acq ∧
    t.dtr.servers = List.replicate 48 none ∧
    t.dtr.settings = { autoLearn := true, k := 3, w := 16, offsetBound := 100000, rateBound := 10000,
                       confirm := 3, wildLimit := 500000000, silenceTimeout := 60,
                       evictionTime := 3600, silentWarn := false, majorityFloor := 4 } ∧
    t.dtr.majority = false ∧ t.dtr.evaluated = 0 ∧ t.dtr.plus = 0 ∧ t.dtr.minus = 0 ∧
    t.dtr.ctr = ⟨0, 0, 0, 0, 0, 0, 0, 0⟩ ∧
    t.wru.pending = 0 ∧ t.wru.condition = 0 ∧ t.wru.lineMask = 0 ∧ t.wru.frameMask = 0 ∧
    t.wru.select48 = .enter ∧ t.wru.select49 = .enter ∧ t.wru.copyToManager = false ∧
    t.wru.alertDue = false ∧ t.wru.alert = none ∧ t.wru.lastAlertEnd = none ∧ t.wru.holdOff = 1000 ∧
    t.wru.alertSeq = 0 ∧ t.wru.alertLine = false ∧ t.wru.ctr = ⟨0, 0, 0, 0, 0⟩ ∧
    t.dte.profiles = List.replicate 8 { sheddable := false, timeout := 30, dated := 0, completed := 0,
                                        timedOut := 0, reused := 0, shed := 0, undated := 0,
                                        unmatched := 0 } ∧
    t.dte.exchanges = List.replicate 256 none ∧ t.dte.discarded = 0 ∧
    t.rrg.held = [] ∧ t.rrg.oldest = 0 ∧ t.rrg.next = 0 ∧ t.rrg.count = 0 ∧ t.rrg.seq = 0 ∧
    t.rrg.reserve = 32 ∧ t.rrg.highMark = 1536 ∧ t.rrg.lowMark = 512 ∧ t.rrg.pressure = false ∧
    t.rrg.ctr = ⟨0, 0, 0, 0, 0, 0⟩ ∧
    t.rpe.threshold = 16 ∧ t.rpe.period = 1000 ∧ t.rpe.timer = some 125000000 ∧
    t.rpe.timerDue = false ∧ t.rpe.reportNow = false ∧ t.rpe.seq = 0 ∧ t.rpe.inFlight = none ∧
    t.rpe.buffer = [] ∧ t.rpe.deferredFlush = false ∧ t.rpe.ctr = ⟨0, 0, 0⟩ ∧
    (∀ p : Port, (t.port p).link = (s.port p).link ∧ (t.port p).buffer = [] ∧
      (t.port p).queue = [] ∧ (t.port p).deferMark = 16384 ∧ (t.port p).egress = none ∧
      (t.port p).ctr = ⟨0, 0, 0, 0, 0, 0, 0⟩ ∧
      ((s.port p).egress.isSome →
        (t.port p).departed.map Departed.check = some CheckSequence.forcedBad) ∧
      (∀ src o k, (s.port p).egress = some (.own src o k) →
        (t.port p).departed.map Departed.octets = some (o.take k ++ forcedBadSequence (o.take k)))) ∧
    t.mgu.reading = true ∧ t.mgu.readSince = none ∧ t.mgu.response = none ∧ t.mgu.managerPort = .u ∧
    t.mgu.ctr = ⟨0, 0, 0, 0, 0, 0⟩ ∧ t.mgu.station.collector = 0 ∧ t.mgu.station.collectorPort = .u ∧
    t.mgu.station.timeServer = 0 ∧ t.mgu.station.timeServerPort = .u ∧ t.mgu.station.group = 0 ∧
    t.mgu.station.tagType = 0 ∧ t.mgu.station.hashSet = BitVec.allOnes 64 ∧ t.resetHeld = true

/-- RESET_INPUT_RELEASE: the counters may tick from here on, and MGU begins the one read of the boot
record; nothing else changes (R20, R213). -/
def Obligations.ReleaseBeginsBootRead : Prop :=
  ∀ s : State, s.resetHeld = true →
    exec .resetInputRelease s =
      .next { s with resetHeld := false, mgu := { s.mgu with readSince := some s.rcu.uptime } }

/-- BOOT_READ_END: a boot record written by the layout of 12.7, with its check value, is good, and MGU
takes the settings that were written into it, an own address with the group bit as zero; the boot state
becomes DONE (R214, R215). -/
def Obligations.BootRecordTaken : Prop :=
  ∀ (own manager : Address) (rack timeType storageType : BitVec 16) (tail : List Byte) (s : State),
    tail.length = 9 → bootReading s = true →
    let body : List Byte := [0x47, 0x48, 1] ++ be 6 own.toNat ++ be 6 manager.toNat ++
      be 2 rack.toNat ++ be 2 timeType.toNat ++ be 2 storageType.toNat
    let o := body ++ be 2 ((body.map BitVec.toNat).sum % 65536) ++ tail
    exec (.bootReadEnd (.octets o)) s = .next { s with mgu := { s.mgu with
      reading := false
      readSince := none
      bootFault := false
      station := { s.mgu.station with
        own := if own.getLsbD 40 then 0 else own
        manager := manager
        rackId := rack
        timeType := timeType
        storageType := storageType } } }

/-- BOOT_READ_END as no reply, BOOT_READ_END with a record whose marker, version or check value is wrong, and
BOOT_READ_TIMEOUT once 6,250,000 ticks have passed: MGU takes the defaults, sets the boot-fault flag, and
the boot state becomes DONE (R213 to R215); before that time the timeout does nothing (assumption 2). -/
def Obligations.BootDefaultsTaken : Prop :=
  ∀ (s : State) (since : Uptime) (o : List Byte),
    s.mgu.reading = true → s.mgu.readSince = some since →
    (o.take 3 ≠ [0x47, 0x48, 1] ∨ o.length ≠ 32 ∨
      (o.getD 21 0).toNat * 256 + (o.getD 22 0).toNat ≠
        ((o.take 21).map BitVec.toNat).sum % 65536) →
    let t : State := { s with mgu := { s.mgu with
      reading := false
      readSince := none
      bootFault := true
      station := { s.mgu.station with
        own := 0, manager := 0, rackId := 0, timeType := 0x9C5E, storageType := 0x9C5F } } }
    exec (.bootReadEnd .noReply) s = .next t ∧ exec (.bootReadEnd (.octets o)) s = .next t ∧
      exec .bootReadTimeout s =
        .next (if 6250000 ≤ (s.rcu.uptime - since).toNat then t else s)

/-! ### The rack clock -/

/-- OSCILLATOR_TICK: rack time advances by I = 8 × 2^32 + K units of 2^-32 ns, the seconds returning to 0
after 2^48 - 1; uptime advances by one modulo 2^64; F, S, A, K, the epoch and every other block keep their
values (R1, R5). -/
def Obligations.TickAddsIncrement : Prop :=
  ∀ s : State, TimeValid s → RateConsistent s → s.resetHeld = false →
    Next (exec .oscillatorTick s) fun t =>
      (timeUnits t.rcu.time : Int) =
        ((timeUnits s.rcu.time : Int) + (8 * 4294967296 + s.rcu.k)) %
          (281474976710656 * 1000000000 * 4294967296) ∧
      TimeValid t ∧ t.rcu.uptime = s.rcu.uptime + 1 ∧ t.rcu.f = s.rcu.f ∧ t.rcu.s = s.rcu.s ∧
      t.rcu.a = s.rcu.a ∧ t.rcu.k = s.rcu.k ∧ t.rcu.phaseTimer = s.rcu.phaseTimer ∧
      t.rcu.epoch = s.rcu.epoch ∧ t.rcu.timeSet = s.rcu.timeSet ∧ SameBut [.rcu] s t

/-- OSCILLATOR_TICK: a tick that carries into a new second begins a pulse of 12,500,000 ticks if the
output is released and quality is at or above the pulse floor; any other tick leaves the output and its
timer (R17). -/
def Obligations.SecondPulseBegins : Prop :=
  ∀ s : State, TimeValid s → RateConsistent s → s.resetHeld = false →
    Next (exec .oscillatorTick s) fun t =>
      if t.rcu.time.sec ≠ s.rcu.time.sec ∧ s.rcu.pulse = false ∧
          s.rcu.pulseFloor.code ≤ (quality s).code then
        t.rcu.pulse = true ∧ t.rcu.pulseTimer = some (t.rcu.uptime + 12500000)
      else t.rcu.pulse = s.rcu.pulse ∧ t.rcu.pulseTimer = s.rcu.pulseTimer

/-- PULSE_WIDTH_EXPIRY: when uptime has reached the expiry of the width timer, the output is released and
the timer stops (R18); before that the command does nothing (assumption 2). Whether an expiry is reached
follows assumption 6. -/
def Obligations.PulseReleased : Prop :=
  ∀ (s : State) (due : Uptime), s.rcu.pulseTimer = some due →
    exec .pulseWidthExpiry s =
      .next (if (s.rcu.uptime - due).toNat < 2 ^ 63 then
        { s with rcu := { s.rcu with pulse := false, pulseTimer := none } } else s)

/-- PHASE_TIMER_EXPIRY: when uptime has reached the expiry of the phase timer, S becomes 0, A becomes F,
K is recomputed, and the timer stops; F and every other item keep their values (R2, R4). Whether an
expiry is reached follows assumption 6. -/
def Obligations.PhaseWindowEnds : Prop :=
  ∀ (s : State) (due : Uptime), RateConsistent s → s.rcu.phaseTimer = some due →
    reached s.rcu.uptime due = true →
    exec .phaseTimerExpiry s = .next { s with rcu := { s.rcu with
      s := 0
      a := s.rcu.f
      k := roundDiv (8 * s.rcu.f * 4294967296) 1000000000000
      phaseTimer := none } }

/-- The clock quality code, from the time-set flag and the discipline state (R15). -/
def Obligations.QualityFormed : Prop :=
  ∀ s : State,
    (s.rcu.timeSet = false → (quality s).code = 0) ∧
    (s.rcu.timeSet = true → (quality s).code =
      match s.dse.state with
      | .idle => 1
      | .freerun => 1
      | .holdover => 2
      | .acquire => 3
      | .locked => 4)

/-- The STEP command with a signed 64-bit amount N: in range, rack time moves by N with its fraction kept,
the epoch advances, the time-set flag and pending bit 51 are set, a RACK_NOTICE is offered, and the
outstanding probe is invalidated; out of range it returns BAD_VALUE and nothing changes (R10). SET_TIME with a
stamp G moves rack time by G less the ingress stamp of its frame in the same way; it returns BAD_VALUE for
nanoseconds above 999,999,999, for a difference outside 64 signed bits and for a result out of range, DENIED
if the epoch differs from the frame's, and then nothing changes (R12). -/
def Obligations.StepAndSetTimeMoveTime : Prop :=
  ∀ (ing : Ingress) (table index : Nat) (s : State),
    (∀ n : Int, -9223372036854775808 ≤ n → n ≤ 9223372036854775807 →
      let d := execute ing { kind := 4, table := table, index := index, param := 2 :: beInt 8 n } s
      if 0 ≤ (s.rcu.time.nanos : Int) + n ∧
          (s.rcu.time.nanos : Int) + n < 281474976710656 * 1000000000 then
        d.status = .ok ∧ d.data = [] ∧ TimeMoved n s d.state
      else d = { status := .badValue, data := [], state := s }) ∧
    (∀ g : Stamp,
      let d := execute ing { kind := 4, table := table, index := index, param := 1 :: g.octets } s
      let n := g.nanos - ing.stamp.nanos
      if 999999999 < g.ns.toNat then d = { status := .badValue, data := [], state := s }
      else if s.rcu.epoch ≠ ing.epoch then d = { status := .denied, data := [], state := s }
      else if -9223372036854775808 ≤ n ∧ n ≤ 9223372036854775807 ∧
          0 ≤ (s.rcu.time.nanos : Int) + n ∧
          (s.rcu.time.nanos : Int) + n < 281474976710656 * 1000000000 then
        d.status = .ok ∧ d.data = [] ∧ TimeMoved n s d.state
      else d = { status := .badValue, data := [], state := s })

/-! ### The discipline -/

/-- ECHO_END of a matched echo, outside IDLE, that passes every screen. In ACQUIRE, and from HOLDOVER and
FREERUN, which first return to ACQUIRE: with |θ| at or below the step threshold, F and S are written together
by the servo, A and K are recomputed, a phase window starts and the lock-in run decides the state; beyond it,
rack time is stepped by -θ, clamped to its range, and F and S keep their values. In LOCKED: beyond the
threshold with step-in-lock on, rack time is stepped and the state becomes ACQUIRE; else the servo runs on θ,
clamped to the threshold and counted if it lay beyond it, the lock count advances, each sixteenth pushes F
onto the rate history after the rate-jump test, and the unlock run decides the state (R31, R35 to R43). The
octets of the lines ride on the command (assumption 1). -/
def Obligations.AcceptedExchangeServes : Prop :=
  ∀ (p : Port) (flow : Flow) (s : State) (a : Arriving) (t1 : Stamp),
    EndsGoodAs .echo p flow a s → matchEcho a (ended p flow a s) = some t1 →
    s.dse.state ≠ .idle → HistoryInRange s →
    let e := echoFields a
    let t4 := a.ingress.stamp
    let delay := saturate64 (Int.tdiv ((t4.nanos - t1.nanos) - (e.t3.nanos - e.t2.nanos)) 2)
    let theta := saturate64 (Int.tdiv ((t1.nanos - e.t2.nanos) + (t4.nanos - e.t3.nanos)) 2)
    let set := s.dse.settings
    let limit : Int := set.stepThreshold
    let beyond := set.stepThreshold < theta.natAbs
    let thetaC := max (-limit) (min limit theta)
    let f := s.rcu.f - roundShift (thetaC * 1000) (set.p + set.gi)
    let newF := max (-200000000) (min 200000000 f)
    e.t2.ns.toNat ≤ 999999999 → e.t3.ns.toNat ≤ 999999999 → e.serverQuality = 4 →
    0 ≤ delay → delay ≤ set.delayCeiling → gatedOut s.dse.window set.gate delay.toNat = false →
    Next (exec (.echoEnd p flow) s) fun t =>
      t.dse.outstanding = none ∧ t.dse.lastOffset = some theta ∧ t.dse.missRun = 0 ∧
      t.dse.ctr.echoesAccepted = bump s.dse.ctr.echoesAccepted ∧
      t.dse.window = pushDelay s.dse.window delay.toNat ∧ t.dse.settings = set ∧
      SameBut [.dse, .rcu, .fcl, .wru, .rrg, .rpe, .egm] s t ∧
      (if beyond ∧ (s.dse.state ≠ .locked ∨ set.stepInLock = true) then
        (t.rcu.time.nanos : Int) =
          max 0 (min (281474976710656 * 1000000000 - 1) ((s.rcu.time.nanos : Int) - theta)) ∧
        t.rcu.epoch = s.rcu.epoch + 1 ∧ t.rcu.timeSet = true ∧ t.rcu.f = s.rcu.f ∧
        t.rcu.s = s.rcu.s ∧ t.rcu.phaseTimer = s.rcu.phaseTimer ∧ t.dse.state = .acquire ∧
        t.dse.lockInRun = 0 ∧ t.dse.lockCount = s.dse.lockCount ∧ t.dse.history = s.dse.history ∧
        (s.dse.state = .locked → t.dse.unlockRun = 0) ∧
        t.dse.ctr.dseSteps = bump s.dse.ctr.dseSteps ∧ t.wru.pending.getLsbD 51 = true ∧
        t.rrg.seq = s.rrg.seq + (if s.dse.state = .acquire then 1 else 2)
      else
        t.rcu.f = newF ∧ t.rcu.s = -roundShift (thetaC * 1000) (set.p + set.gp) ∧ RateConsistent t ∧
        t.rcu.phaseTimer = some (s.rcu.uptime + BitVec.ofNat 64 (15625000 * 2 ^ (set.p + 3).toNat)) ∧
        t.rcu.time = s.rcu.time ∧ t.rcu.epoch = s.rcu.epoch ∧
        t.dse.ctr.rateLimits = (if f < -200000000 ∨ 200000000 < f then bump s.dse.ctr.rateLimits
          else s.dse.ctr.rateLimits) ∧
        t.dse.ctr.offsetClamps = (if beyond then bump s.dse.ctr.offsetClamps
          else s.dse.ctr.offsetClamps) ∧
        (if s.dse.state = .locked then
          let count := bump s.dse.lockCount
          let pushed := count.toNat % 16 = 0
          let jumps := pushed ∧ s.dse.history ≠ [] ∧ set.rateJumpLimit <
            (newF - roundDiv s.dse.history.sum s.dse.history.length).natAbs
          let run := if set.unlockThreshold < theta.natAbs then bump s.dse.unlockRun else 0
          t.dse.lockCount = count ∧
          t.dse.history = (if pushed then (newF :: s.dse.history).take 4 else s.dse.history) ∧
          t.dse.ctr.rateJumps = (if jumps then bump s.dse.ctr.rateJumps
            else s.dse.ctr.rateJumps) ∧
          (jumps → t.wru.pending.getLsbD 52 = true) ∧
          (if 3 ≤ run.toNat then
            t.dse.state = .acquire ∧ t.dse.unlockRun = 0 ∧ t.dse.lockInRun = 0
          else t.dse.state = .locked ∧ t.dse.unlockRun = run ∧
            t.dse.lockInRun = s.dse.lockInRun) ∧
          t.rrg.seq = s.rrg.seq + (if jumps then 1 else 0) + (if 3 ≤ run.toNat then 1 else 0)
        else
          let run := if theta.natAbs ≤ set.lockWindow then bump s.dse.lockInRun else 0
          t.dse.history = s.dse.history ∧
          (if 4 ≤ run.toNat then t.dse.state = .locked ∧ t.dse.lockInRun = 0 ∧
            t.dse.unlockRun = 0 ∧ t.dse.lockCount = 0
          else t.dse.state = .acquire ∧ t.dse.lockInRun = run ∧
            t.dse.lockCount = s.dse.lockCount) ∧
          t.rrg.seq = s.rrg.seq + (if s.dse.state = .acquire then 0 else 1) +
            (if 4 ≤ run.toNat then 1 else 0)))

/-- PROBE_TIMER_EXPIRY with a time server, no probe outstanding and no frame of the previous probe left:
the timer reloads for one interval, a PROBE takes the next sequence, becomes the outstanding probe and
is queued behind the entries of the time server port (R25, R26). Whether an expiry is reached follows
assumption 6. -/
def Obligations.ProbeBuiltAtExpiry : Prop :=
  ∀ (s : State) (due : Uptime),
    s.dse.probeTimer = some due → reached s.rcu.uptime due = true →
    s.mgu.station.timeServer ≠ 0 → s.dse.outstanding = none → s.dse.frame = none →
    s.wru.testDue = false → (s.port s.mgu.station.timeServerPort).link = true →
    let q := s.mgu.station.timeServerPort
    let frame := gtpFrame s.mgu.station.timeServer s.mgu.station.own none s.mgu.station.timeType 3
      s.dse.settings.probeDomain 0 s.dse.nextSeq (be 10 0)
    Next (exec .probeTimerExpiry s) fun t =>
      t.dse = { s.dse with
        probeTimer := some (due + BitVec.ofNat 64 (15625000 * 2 ^ (s.dse.settings.p + 3).toNat))
        nextSeq := s.dse.nextSeq + 1
        outstanding := some { seq := s.dse.nextSeq, port := q, sent := none }
        frame := some { seq := s.dse.nextSeq, port := q, octets := frame }
        held := none } ∧
      t.port q = { s.port q with queue := (s.port q).queue ++ [{ source := .probe }] } ∧
      t.port q.other = s.port q.other ∧ SameBut [.dse, .egm] s t

/-- PROBE_TIMER_EXPIRY that brings the miss run of LOCKED to the miss limit: DSE enters HOLDOVER on the
learned rate, with S zero and U at the last offset, or FREERUN at once if U exceeds the limit (R26, R34,
R44, R45). The expiry is one with a probe outstanding and a time server. Whether an expiry is reached
follows assumption 6. -/
def Obligations.MissLimitEntersHoldover : Prop :=
  ∀ (s : State) (due : Uptime) (theta : Int),
    s.dse.probeTimer = some due → reached s.rcu.uptime due = true →
    s.mgu.station.timeServer ≠ 0 → s.dse.outstanding.isSome = true → s.dse.frame = none →
    (s.port s.mgu.station.timeServerPort).link = true →
    s.dse.state = .locked → s.dse.lastOffset = some theta →
    s.dse.settings.missLimit ≤ (bump s.dse.missRun).toNat → HistoryInRange s → RateConsistent s →
    let rate := if s.dse.history = [] then s.rcu.f
      else roundDiv s.dse.history.sum s.dse.history.length
    let u := min theta.natAbs 4294967295
    Next (exec .probeTimerExpiry s) fun t =>
      t.rcu.f = rate ∧ t.rcu.s = 0 ∧ t.rcu.phaseTimer = none ∧ RateConsistent t ∧
      t.dse.holdoverRate = rate ∧ t.dse.u.toNat = u ∧
      t.dse.ctr.misses = bump s.dse.ctr.misses ∧ t.dse.missRun = bump s.dse.missRun ∧
      t.wru.condition.getLsbD 48 = true ∧
      (if s.dse.settings.holdoverLimit < u then
        t.dse.state = .freerun ∧ t.dse.growthTimer = none ∧ t.wru.pending.getLsbD 50 = true
      else t.dse.state = .holdover ∧ t.dse.growthTimer = some (s.rcu.uptime + 125000000)) ∧
      SameBut [.rcu, .dse, .wru, .rrg, .rpe, .egm] s t

/-- GROWTH_TIMER_EXPIRY in HOLDOVER: U grows by the holdover bound, stopping at 4,294,967,295, and the
timer reloads; beyond the holdover limit the timer stops, the state becomes FREERUN, pending bit 50 is
set and two notices are offered (R45). Whether an expiry is reached follows assumption 6. -/
def Obligations.GrowthExpiryRaisesUncertainty : Prop :=
  ∀ (s : State) (due : Uptime),
    s.dse.growthTimer = some due → reached s.rcu.uptime due = true → s.dse.state = .holdover →
    let u := min (s.dse.u.toNat + s.dse.settings.holdoverBound) 4294967295
    Next (exec .growthTimerExpiry s) fun t =>
      t.dse.u.toNat = u ∧ SameBut [.dse, .wru, .rrg, .rpe, .egm] s t ∧
      (if s.dse.settings.holdoverLimit < u then
        t.dse.state = .freerun ∧ t.dse.growthTimer = none ∧ t.wru.pending.getLsbD 50 = true ∧
        t.rrg.seq = s.rrg.seq + 2
      else t.dse.state = .holdover ∧ t.dse.growthTimer = some (due + 125000000) ∧
        t.rrg.seq = s.rrg.seq)

/-- DISCIPLINE_START is DENIED without a time server address; else the exchange state is reset, the state
becomes ACQUIRE and the probe timer expires at once, while F, S, the phase timer, the rate history, the
holdover rate and U keep their values. DISCIPLINE_STOP stops probing, sets S to 0 and enters IDLE (R23,
R24). That the expiry itself is a command of its own, so that no probe is built yet, is the model's choice
(assumption 17). -/
def Obligations.DisciplineStartsAndStops : Prop :=
  ∀ (ing : Ingress) (table index : Nat) (s : State), RateConsistent s →
    let start := execute ing { kind := 4, table := table, index := index, param := [3] } s
    let stop := execute ing { kind := 4, table := table, index := index, param := [4] } s
    (if s.mgu.station.timeServer = 0 then start = { status := .denied, data := [], state := s }
    else
      start.status = .ok ∧ start.state.dse = { s.dse with
        state := .acquire, outstanding := none, held := none, window := [], missRun := 0
        lockInRun := 0, unlockRun := 0, lockCount := 0, lastOffset := none, growthTimer := none
        probeTimer := some s.rcu.uptime } ∧
      SameBut [.dse, .wru, .rrg, .rpe, .egm] s start.state ∧
      start.state.rrg.seq = s.rrg.seq + (if s.dse.state = .acquire then 0 else 1)) ∧
    stop.status = .ok ∧ stop.state.dse = { s.dse with
      state := .idle, outstanding := none, held := none, growthTimer := none, probeTimer := none } ∧
    stop.state.rcu = { s.rcu with
      s := 0, phaseTimer := none, a := s.rcu.f, k := increment s.rcu.f } ∧
    SameBut [.rcu, .dse, .wru, .rrg, .rpe, .egm] s stop.state

/-! ### Invariants that every step keeps -/

/-- Rack time stays in its valid range, F in its range, and A and K stay those of F and S (R1 to R3). -/
def Obligations.ClockConsistencyKept : Prop :=
  KeptBySteps fun s => TimeValid s ∧ RateConsistent s

/-- In HOLDOVER and FREERUN F equals the holdover rate and S is zero, and S is zero in IDLE (R19, R24,
R44). The rate history's range is carried along. -/
def Obligations.HoldoverRunsOnLearnedRate : Prop :=
  KeptBySteps fun s => RateConsistent s ∧ HistoryInRange s ∧ HoldoverRateKept s

/-- The probe timer runs outside IDLE, the growth timer in HOLDOVER, and IDLE has no outstanding probe
(R25, R29, R45). -/
def Obligations.DisciplineTimersFollowState : Prop := KeptBySteps DisciplineTimers

/-- The ring's pointers agree with what it holds, its settings stay in range, pressure agrees with its
marks, and the report in flight carries the oldest records (R158, R167 to R169, R182). -/
def Obligations.RingStaysConsistent : Prop :=
  KeptBySteps fun s => RingConsistent s ∧ PressureConsistent s ∧ ReportHeld s

/-- The alert line is asserted exactly when some pending bit has its line-enable bit set (R122), and no
alert build test is left owed between commands: each effect ends with the test it called for. That flag is
the model's own (assumption 12). -/
def Obligations.AlertLineFollowsPending : Prop :=
  KeptBySteps fun s => AlertLineDriven s ∧ s.wru.testDue = false

/-- The condition set is true exactly where the conditions of the servers, of UNLOCKED and of MAJORITY are
(R111, R119). The sizes of the tables are carried along. -/
def Obligations.ConditionSetAgrees : Prop := KeptBySteps fun s => TableSizes s ∧ ConditionsAgree s

/-- No two server entries hold one address, and no two OPEN exchange entries one key (R92, R135). -/
def Obligations.KeysStayDistinct : Prop :=
  KeptBySteps fun s => ServersDistinct s ∧ ExchangesDistinct s

/-- The origination queues agree with the frames their owners hold and with what is in egress: each source
stands in at most one entry of one queue, the alert in at most one of each; so no queue holds more than
12 entries (R79, R190, R194, R196, R197). -/
def Obligations.QueuesAgreeWithOwners : Prop :=
  KeptBySteps QueuesConsistent ∧ ∀ s : State, QueuesConsistent s → QueuesBounded s

/-- The state after reset meets every invariant stated here. -/
def Obligations.ResetMeetsInvariants : Prop :=
  let s := State.reset
  TimeValid s ∧ RateConsistent s ∧ HistoryInRange s ∧ HoldoverRateKept s ∧ DisciplineTimers s ∧
    RingConsistent s ∧ PressureConsistent s ∧ ReportHeld s ∧ AlertLineDriven s ∧ TableSizes s ∧
    ConditionsAgree s ∧ ServersDistinct s ∧ ExchangesDistinct s ∧ QueuesConsistent s ∧
    s.wru.testDue = false

/-! ### The frame path -/

/-- FRAME_START on a port whose link is UP and that no frame is arriving on: RCU takes the ingress record of
the instant, FCL the station settings in force, and the other port's buffer admits the frame if its link is UP
and it has 9,220 octets of room. In ACTIVE mode the frame's course is open; in TRANSPARENT mode its first
octet enters that buffer, or the refusal is counted there by its cause (R6, R52, R73, R187). In ACTIVE mode
the octet is kept, and nothing is counted, until FCL decides (assumption 3). The octets of the lines ride on
the command (assumption 1). -/
def Obligations.FrameStartTakesRecord : Prop :=
  ∀ (p : Port) (flow : Flow) (first : Byte) (s : State),
    let s1 := applyFlow flow s
    (s1.port p).link = true → s1.arriving p = none →
    let e := s1.port p.other
    let station := s.mgu.station
    let how : Admission :=
      if e.link = false then .down else if 9220 ≤ 32768 - occupancy e then .room else .full
    Next (exec (.frameStart p flow first) s) fun t =>
      SameBut [.fcl, .egm] s t ∧ t.arriving p.other = s1.arriving p.other ∧
      t.fcl.ctr = s.fcl.ctr ∧ t.fcl.filters = s.fcl.filters ∧ t.port p = s1.port p ∧
      t.arriving p = some
        { ingress := { stamp := stampOfNanos (s.rcu.time.nanos - (s.rcu.ingressComp.get p).toNat)
                       uptime := s.rcu.uptime
                       epoch := s.rcu.epoch
                       quality := quality s }
          settings := { own := station.own, group := station.group, tagType := station.tagType
                        timeType := station.timeType, storageType := station.storageType }
          transparent := s.mgu.reading
          admission := how
          course := if s.mgu.reading then (if how = .room then .passed else .refused) else .undecided
          walked := false
          octets := [first]
          count := 1 } ∧
      t.port p.other =
        if s.mgu.reading = false then e
        else if how = .room then
          { e with buffer := e.buffer ++ [{ octets := [first], ingressUptime := s.rcu.uptime }] }
        else if how = .full then { e with ctr := { e.ctr with bufferFull := bump e.ctr.bufferFull } }
        else { e with ctr := { e.ctr with linkDrops := bump e.ctr.linkDrops } }

/-- FOR_PART_DECISION, by the octets received so far and those it brings. Once they tell the type of a frame
that is no GTP frame, or run through the kind octet of a GTP frame, tagged or not, the course is decided: a
frame to the own address, set, a QUERY to the rack group address, set, and a broadcast MGMT_REQ while the own
address is zero are for the part and enter no buffer; any other frame enters the other port's buffer, or is
refused and counted there; before, the course stays open (R55, R57, R187). The octets enter, and a refusal is
counted, at the decision, by the admission settled at the first octet (assumption 3). So do octets that any
command brings, which ride on it (assumption 1): the command does what they do and no more. -/
def Obligations.ForPartDecided : Prop :=
  ∀ (p : Port) (flow : Flow) (s : State) (a : Arriving),
    s.arriving p = some a → a.course = .undecided →
    let cfg := a.settings
    let l := a.octets ++ flow.rx.get p
    let count := a.count + (flow.rx.get p).length
    let tag := if cfg.tagType ≠ 0 ∧ field 12 2 l = cfg.tagType.toNat then 4 else 0
    let gtp := field (12 + tag) 2 l = cfg.timeType.toNat
    let kind := field (15 + tag) 1 l
    let forPart := gtp ∧ ((destination l = cfg.own ∧ cfg.own ≠ 0) ∨
      (kind = 1 ∧ cfg.group ≠ 0 ∧ destination l = cfg.group) ∨
      (kind = 5 ∧ destination l = BitVec.allOnes 48 ∧ cfg.own = 0))
    let e := s.port p.other
    let room := 32768 - occupancy e
    Next (exec (.forPartDecision p flow) s) fun t =>
      t = applyFlow flow s ∧ SameBut [.fcl, .egm] s t ∧
      (if l.length < 14 + tag ∨ (gtp ∧ l.length < 16 + tag) then
        t.arriving p = some { a with octets := l, count := count } ∧
        (t.port p.other).buffer = e.buffer ∧ (t.port p.other).ctr = e.ctr
      else if forPart then
        t.arriving p =
          some { a with course := .forPart, octets := l.take 9220, count := count } ∧
        (t.port p.other).buffer = e.buffer ∧ (t.port p.other).ctr = e.ctr
      else if a.admission = .room then
        t.arriving p = some { a with course := .passed, octets := l, count := count } ∧
        (t.port p.other).buffer = e.buffer ++
          [{ octets := l.take room
             arrival := if room < l.length then .stopped else .arriving
             ingressUptime := a.ingress.uptime }] ∧ (t.port p.other).ctr = e.ctr
      else
        t.arriving p = some { a with course := .refused, octets := l, count := count } ∧
        (t.port p.other).buffer = e.buffer ∧
        (t.port p.other).ctr = (if a.admission = .full then
          { e.ctr with bufferFull := bump e.ctr.bufferFull }
        else { e.ctr with linkDrops := bump e.ctr.linkDrops }))

/-- GTP_TRANSIT_WALK of a keyed GTP frame in pass-through whose first matching TRANSIT or PASS filter is
a TRANSIT one: that filter ends the walk and has its hit counted, and the frame is marked with the place
of its residence field; no other filter, and nothing else, changes (R64, R65, R67). The octets of the
lines ride on the command (assumption 1). -/
def Obligations.TransitWalkMarks : Prop :=
  ∀ (p : Port) (flow : Flow) (s : State) (a : Arriving) (i : Nat) (f : Filter) (x : PassFrame),
    let s1 := applyFlow flow s
    s1.arriving p = some a → transitWalkDue a = true → a.course = .passed →
    (s1.port p.other).buffer.getLast? = some x →
    s.fcl.filters[i]? = some f → f.action = .transit →
    f.covers s.fcl.masks (gtpKey a.settings a.octets) = true →
    (∀ j < i, ∀ g ∈ s.fcl.filters[j]?,
      g.covers s.fcl.masks (gtpKey a.settings a.octets) = true →
        g.action ≠ .transit ∧ g.action ≠ .pass) →
    Next (exec (.gtpTransitWalk p flow) s) fun t =>
      t.fcl.filters = s.fcl.filters.set i { f with hits := bump f.hits } ∧
      t.arriving p = some { a with walked := true } ∧
      (t.port p.other).buffer = (s1.port p.other).buffer.dropLast ++
        [{ x with transit := some (residenceAt a.settings a.octets) }] ∧
      t.port p = s1.port p ∧ SameBut [.fcl, .egm] s t

/-- PASS_THROUGH_READY on departure port `p`: once the octets that arrived bring the head frame to 64,
it is ready, and a port at a boundary with nothing of its own to send chooses it; no octet is lost
(R188, R191). That the choice takes effect at a FRAME_BOUNDARY command and not within this one is the model's
choice (assumption 4). The octets of the lines ride on the command (assumption 1). -/
def Obligations.HeadFrameBecomesReady : Prop :=
  ∀ (p : Port) (flow : Flow) (s : State) (a : Arriving) (f : PassFrame),
    s.arriving p.other = some a → a.course = .passed → (s.port p).buffer = [f] →
    f.arrival = .arriving → (s.port p).egress = none → (s.port p).queue = [] →
    f.octets.length + (flow.rx.get p.other).length ≤ 9220 →
    64 ≤ f.octets.length + (flow.rx.get p.other).length →
    Next (exec (.passThroughReady p flow) s) fun t =>
      (t.port p).buffer = [{ f with octets := f.octets ++ flow.rx.get p.other }] ∧
      headReady (t.port p) = true ∧ choose (t.port p) = some .pass ∧ SameBut [.fcl, .egm] s t

/-- FRAME_END of a frame, begun in ACTIVE mode, without handling of its own: it is counted in frames in. One in
pass-through of neither storage class has its copy in the other port's buffer completed; one for the part is
dropped, as malformed by its version, its kind or its body length, else as misdirected by its kind, and
counted so; nothing else changes (R53, R56, R59, R60). The octets of the lines ride on the command
(assumption 1). -/
def Obligations.PlainFrameEnds : Prop :=
  ∀ (p : Port) (flow : Flow) (s : State) (a : Arriving),
    let s1 := applyFlow flow s
    let counted := { s.fcl.ctr.get p with framesIn := bump (s.fcl.ctr.get p).framesIn }
    (∀ x : PassFrame, EndsGoodAs .other p flow a s ∨ EndsGoodAs .gtpPass p flow a s →
      a.course = .passed → (s1.port p.other).buffer.getLast? = some x → x.arrival = .arriving →
      Next (exec (.frameEnd p flow) s) fun t =>
        t.arriving p = none ∧ t.fcl.ctr.get p = counted ∧
        (t.port p.other).buffer = (s1.port p.other).buffer.dropLast ++ [{ x with arrival := .good }] ∧
        t.fcl.filters = s.fcl.filters ∧ t.port p = s1.port p ∧ SameBut [.fcl, .egm] s t) ∧
    (s1.arriving p = some a → a.course = .forPart → a.transparent = false → isGoodFrame a = true →
      let h := headerAt a.settings a.octets
      let kind := field (h + 1) 1 a.octets
      let length := field (h + 6) 2 a.octets
      let malformed := field h 1 a.octets ≠ 1 ∨ kind < 1 ∨ 8 < kind ∨ a.count - 4 - (h + 14) < length ∨
        (kind = 1 ∧ length < 14) ∨ (kind = 4 ∧ length < 31)
      malformed ∨ kind = 2 ∨ kind = 3 ∨ kind = 6 ∨ kind = 7 ∨ kind = 8 →
      Next (exec (.frameEnd p flow) s) fun t =>
        t.arriving p = none ∧
        t.fcl.ctr.get p = (if malformed then { counted with malformed := bump counted.malformed }
          else { counted with misdirected := bump counted.misdirected }) ∧
        t.fcl.filters = s.fcl.filters ∧ t.egm = s1.egm ∧ SameBut [.fcl, .egm] s t)

/-- FRAME_BAD_END of a frame that its check sequence or its length makes bad: begun in ACTIVE mode, it is
counted in frames in and in bad-end frames. A copy in pass-through is completed as a bad one, unless its
arrival has stopped; the octets of a frame for the part move in order into the other port's buffer, to leave
as received, or, past its upper limit, to end with a forced bad check sequence; those of a frame that ended
before FCL's decision enter it by the admission of its first octet; a frame that cannot be taken is counted
there. No counter of the part's own use and no block but FCL and EGM changes (R53, R54, R187). Octets that
make a frame good, by the check function of assumption 13, have no bad end (assumption 2), and the octets of
the lines ride on the command (assumption 1). -/
def Obligations.BadFrameForwarded : Prop :=
  ∀ (p : Port) (flow : Flow) (s : State) (a : Arriving),
    let s1 := applyFlow flow s
    s1.arriving p = some a →
    Next (exec (.frameBadEnd p flow) s) fun t =>
      if isGoodFrame a = true ∧ a.transparent = false then t = s1
      else
        t.arriving p = none ∧ t.arriving p.other = s1.arriving p.other ∧
        t.fcl.ctr.get p = countedBad a (s.fcl.ctr.get p) ∧
        t.fcl.ctr.get p.other = s.fcl.ctr.get p.other ∧ t.fcl.filters = s.fcl.filters ∧
        t.port p.other = forwardedBad a .bad (s1.port p.other) ∧ t.port p = s1.port p ∧
        SameBut [.fcl, .egm] s t

/-! ### Answering and tracking -/

/-- QUERY_END of a query whose walk claims slot `n`: the slot takes the query's contents, with the tracking
state that DTR holds after the query, and its other counters stay; an unserved claim is counted. DTR tracks
the query, by its source, its ingress record, its Ts and its last delay, on the state after the frame's end,
and every block but FCL and ANU stands as that leaves it, the slot's entry then queued on the arrival port and
the alert build test that this calls for made. The filter's hit is counted, and every other slot keeps its
contents and counters (R68, R70, R77 to R80, R93, R96). The octets of the lines ride on the command
(assumption 1). -/
def Obligations.QueryClaimsSlot : Prop :=
  ∀ (p : Port) (flow : Flow) (s : State) (a : Arriving) (i n : Nat),
    EndsGoodAs .query p flow a s → queryWalk a (ended p flow a s) = .claim i n →
    n < s.anu.slots.length → ((ended p flow a s).port p).link = true →
    let s1 := ended p flow a s
    let body := bodyAt a.settings a.octets
    let tracked := trackQuery (sourceAddress a.octets) a.ingress (stampAt body a.octets)
      (BitVec.ofNat 32 (field (body + 10) 4 a.octets)) s1
    let queued := finish (tracked.setPort p { tracked.port p with
      queue := (tracked.port p).queue ++ [{ source := .slot n }] })
    let slot := s.anu.slots.getD n {}
    Next (exec (.queryEnd p flow) s) fun t =>
      SameBut [.fcl, .anu] queued t ∧
      t.anu.slots.getD n {} = { slot with
        answer := (t.anu.slots.getD n {}).answer
        unserved := if s.anu.floor.code ≤ a.ingress.quality.code then slot.unserved
          else bump slot.unserved } ∧
      (∃ ans, (t.anu.slots.getD n {}).answer = some ans ∧
        ans.requester = sourceAddress a.octets ∧ ans.port = p ∧
        ans.tag = tagOf a.settings a.octets ∧ ans.domain = gtpDomain a.settings a.octets ∧
        ans.seq = gtpSequence a.settings a.octets ∧
        ans.ts = stampAt (bodyAt a.settings a.octets) a.octets ∧ ans.t2 = a.ingress.stamp ∧
        ans.epoch = a.ingress.epoch ∧ ans.quality = a.ingress.quality ∧
        ans.uncertainty = uncertainty s ∧
        ans.served = decide (s.anu.floor.code ≤ a.ingress.quality.code) ∧
        ans.own = s.mgu.station.own ∧ ans.timeType = s.mgu.station.timeType ∧
        ans.rackId = s.mgu.station.rackId ∧ ans.egress = none ∧
        (findServer (sourceAddress a.octets) t = none →
          ans.serverIndex = 255 ∧ ans.serverState = none ∧ ans.fo = 0) ∧
        (∀ j, findServer (sourceAddress a.octets) t = some j → ans.serverIndex = BitVec.ofNat 8 j ∧
            ans.serverState = (serverAt j t).map Server.state ∧
            ans.fo = ((serverAt j t).bind Server.fo).getD 0)) ∧
      { source := .slot n } ∈ (t.port p).queue ∧
      t.fcl = { s1.fcl with filters := s1.fcl.filters.modify i fun f => { f with hits := bump f.hits } } ∧
      t.anu.floor = s.anu.floor ∧
      (∀ m : Fin 8, m.val ≠ n → t.anu.slots[m.val]? = s.anu.slots[m.val]?) ∧
      SameBut [.fcl, .anu, .dtr, .wru, .rrg, .rpe, .egm] s t

/-- QUERY_END of a query whose walk does not claim a slot. Dropped by PASS, whose hit is counted, or without
an ANSWER match: the unclassified counter of the port is incremented and the query is neither tracked nor
answered. An overrun of slot `m`: the overrun counters of the slot and the port are incremented and the slot's
flag is set, no answer is built, and DTR tracks the query, by its source, its ingress record, its Ts and its
last delay, on the state after the frame's end: every block but FCL and ANU stands as that leaves it, the
alert build test that it calls for made (R65, R69, R70, R85, R93, R96). The octets of the lines ride on the
command (assumption 1). -/
def Obligations.UnansweredQueryCounted : Prop :=
  ∀ (p : Port) (flow : Flow) (s : State) (a : Arriving) (m : Nat) (hit : Option Nat),
    EndsGoodAs .query p flow a s → s.wru.testDue = false →
    let s1 := ended p flow a s
    let body := bodyAt a.settings a.octets
    let tracked := finish (trackQuery (sourceAddress a.octets) a.ingress (stampAt body a.octets)
      (BitVec.ofNat 32 (field (body + 10) 4 a.octets)) s1)
    (queryWalk a s1 = .dropped hit → Next (exec (.queryEnd p flow) s) fun t =>
      t.fcl.ctr.get p = { s1.fcl.ctr.get p with
        unclassified := bump (s1.fcl.ctr.get p).unclassified } ∧
      t.fcl.filters = (match hit with
        | none => s.fcl.filters
        | some i => s.fcl.filters.modify i fun f => { f with hits := bump f.hits }) ∧
      SameBut [.fcl] s1 t ∧ SameBut [.fcl, .egm] s t) ∧
    (queryWalk a s1 = .overrun m → m < s.anu.slots.length →
      Next (exec (.queryEnd p flow) s) fun t =>
        t.fcl.ctr.get p = { s1.fcl.ctr.get p with overruns := bump (s1.fcl.ctr.get p).overruns } ∧
        t.fcl.filters = s.fcl.filters ∧
        t.anu = { s.anu with slots := s.anu.slots.modify m fun sl =>
          { sl with overruns := bump sl.overruns, overrunFlag := true } } ∧
        SameBut [.fcl, .anu] tracked t ∧
        SameBut [.fcl, .anu, .dtr, .wru, .rrg, .rpe, .egm] s t)

/-- A tracked query of a server in the table is sampled on its entry, and no other entry changes. The query is
booked; the offset sample is Ts plus the delay allowance less Ti, saturated; fo moves toward it by the
smoothing shift, or is seeded by it when it was absent, the server was SILENT, or rack time was stepped (R96
to R100). A window counts the query and completes, with its drift, once it spans W queries and one second
(R101), which a wild sample does not make it do (R102; assumption 21). The entry is evaluated by its fo and
its drift, unless the quality is below LOCK (R102 to R106), a move to or from DRIFTING is noticed (R110), and
the majority condition is formed anew from the table, a change of it noticed and given to WRU (R112). A query
of a source that no entry holds is counted untracked, and nothing else changes, if the source is zero or a
group address, auto-learn is off or no entry is EMPTY; else the lowest-numbered EMPTY entry is admitted,
counted and noticed, and the query is sampled on it as on an entry found (R93). -/
def Obligations.TrackedQuerySampled : Prop :=
  ∀ (src : Address) (ing : Ingress) (ts : Stamp) (delay : BitVec 32) (s : State),
    let t := trackQuery src ing ts delay s
    (∀ (j : Nat) (sv : Server), findServer src s = some j → serverAt j s = some sv →
      let set := s.dtr.settings
      let d := if delay.toNat ≤ 1000000 then delay.toNat else sv.allowance.toNat
      let o := max (-2147483647) (min 2147483647 (ts.nanos + d - ing.stamp.nanos))
      let seeds := sv.state = .silent ∨ sv.fo = none ∨
        (sv.sampleEpoch ≠ none ∧ sv.sampleEpoch ≠ some ing.epoch)
      let fo := if seeds then o else max (-2147483647) (min 2147483647
        (sv.fo.getD 0 + roundDiv (o - sv.fo.getD 0) (2 ^ set.k)))
      let wild := set.wildLimit < o.natAbs
      let n := min (sv.windowCount + 1) 65535
      let span := ing.stamp.nanos - sv.windowTi.nanos
      let completes := ¬seeds ∧ ¬wild ∧ set.w ≤ n ∧ 1000000000 ≤ span
      let drift := if completes then
          some (max (-1000000) (min 1000000 (Int.tdiv ((fo - sv.windowFo) * 1000000000) span)))
        else if sv.state = .silent then none else sv.drift
      let exceeds := set.offsetBound < fo.natAbs ∨
        drift.any (fun v => decide (set.rateBound < v.natAbs)) = true
      let released := fo.natAbs ≤ 3 * set.offsetBound / 4 ∧
        drift.all (fun v => decide (v.natAbs ≤ 3 * set.rateBound / 4)) = true
      let held := (quality s).code < 4
      let before : SState := if sv.state = .silent then .probation else sv.state
      let run := if sv.state = .silent then 0 else sv.run
      let result := evaluation set.confirm (decide wild) (decide completes) (decide exceeds)
        (decide released) before run
      let after : SState × Nat × Option ServerCause := if held then (before, run, none) else result
      (∀ i : Nat, i ≠ j → serverAt i t = serverAt i s) ∧
      serverAt j t = some { sv with
        state := after.1
        lastTi := some ing.stamp
        lastQuery := ing.uptime
        sampleEpoch := some ing.epoch
        lastSample := some o
        fo := some fo
        windowFo := if seeds ∨ completes then fo else sv.windowFo
        windowTi := if seeds ∨ completes then ing.stamp else sv.windowTi
        windowCount := if seeds ∨ completes then 0 else n
        drift := drift
        run := after.2.1
        queries := bump sv.queries } ∧
      t.dtr.settings = set ∧ t.dtr.ctr = { s.dtr.ctr with
        tracked := bump s.dtr.ctr.tracked
        wild := if wild then bump s.dtr.ctr.wild else s.dtr.ctr.wild
        windows := if completes then bump s.dtr.ctr.windows else s.dtr.ctr.windows
        heldEvaluations := if held then bump s.dtr.ctr.heldEvaluations
          else s.dtr.ctr.heldEvaluations } ∧
      MajorityFormed t ∧
      (let changed := t.dtr.majority ≠ s.dtr.majority
       let notice : List Record := match after.2.2 with
         | none => []
         | some cause => [{ quality := quality s, seq := s.rrg.seq, date := s.rcu.time.stamp
                            body := .server (BitVec.ofNat 8 j) sv.address (some before) (some after.1)
                              cause (some fo) drift }]
       let rack : List Record := if changed then
           [{ quality := quality s, date := s.rcu.time.stamp
              seq := s.rrg.seq + BitVec.ofNat 16 notice.length
              body := .rack (if t.dtr.majority then .majorityOn else .majorityOff) s.dse.state
                s.dse.state ((t.dtr.plus : Int) - t.dtr.minus) }]
         else []
       (s.rrg.count + 2 ≤ 2048 → t.rrg.held = s.rrg.held ++ notice ++ rack) ∧
       t.rrg.seq = s.rrg.seq + BitVec.ofNat 16 (notice.length + rack.length) ∧
       (j < 48 → t.wru.condition.getLsbD 49 =
         if changed then t.dtr.majority else s.wru.condition.getLsbD 49)) ∧
      SameBut [.dtr, .wru, .rrg, .rpe, .egm] s t) ∧
    (findServer src s = none →
      if src = 0 ∨ src.getLsbD 40 = true ∨ s.dtr.settings.autoLearn = false ∨
          (∀ e ∈ s.dtr.servers, e ≠ none) then
        t = { s with dtr := { s.dtr with
          ctr := { s.dtr.ctr with untracked := bump s.dtr.ctr.untracked } } }
      else ∀ i : Nat, s.dtr.servers[i]? = some none → (∀ j < i, s.dtr.servers[j]? ≠ some none) →
        let new : Server :=
          { state := .probation, pinned := false, address := src, allowance := 0, select := .enter
            lastTi := none, sampleEpoch := none, lastSample := none, fo := none, drift := none
            windowCount := 0, run := 0, queries := 0 }
        let notice : Record :=
          { quality := quality s, seq := s.rrg.seq, date := s.rcu.time.stamp
            body := .server (BitVec.ofNat 8 i) src none (some .probation) .admitted none none }
        let admitted := offer notice { s with dtr := { s.dtr with
          servers := s.dtr.servers.set i (some new)
          ctr := { s.dtr.ctr with admissions := bump s.dtr.ctr.admissions } } }
        findServer src admitted = some i ∧ serverAt i admitted = some new ∧
          t = trackQuery src ing ts delay admitted ∧ admitted.rrg.seq = s.rrg.seq + 1 ∧
          (s.rrg.count < 2048 → admitted.rrg.held = s.rrg.held ++ [notice]))

/-- While the clock quality is below LOCK, no command but a management frame moves a server entry between
any two of PROBATION, IN_BOUND, WATCH and DRIFTING (R103). -/
def Obligations.HeldEvaluationMovesNoServer : Prop :=
  ∀ (c : Instr) (s t : State) (i : Nat) (sv new : Server),
    (∀ p flow, c ≠ .mgmtReqEnd p flow) → exec c s = .next t → (quality s).code < 4 →
    serverAt i s = some sv → serverAt i t = some new → sv.state ≠ .silent → new.state ≠ .silent →
    new.state = sv.state

/-- SERVER_SILENCE of an entry whose age has reached the silence timeout, and not, if LEARNED, the
eviction time: it becomes SILENT with its measurements kept, the silenced counter is incremented, and a
SILENCED notice takes the next sequence number (R107, R110). -/
def Obligations.AgedServerFallsSilent : Prop :=
  ∀ (i : Fin 48) (s : State) (sv : Server),
    serverAt i.val s = some sv → sv.state ≠ .silent →
    s.dtr.settings.silenceTimeout * 125000000 ≤ (s.rcu.uptime - sv.lastQuery).toNat →
    (sv.pinned = true ∨
      (s.rcu.uptime - sv.lastQuery).toNat < s.dtr.settings.evictionTime * 125000000) →
    Next (exec (.serverSilence i) s) fun t =>
      t.dtr.servers = s.dtr.servers.set i.val (some { sv with state := .silent, run := 0 }) ∧
      t.dtr.ctr = { s.dtr.ctr with silenced := bump s.dtr.ctr.silenced } ∧
      t.dtr.settings = s.dtr.settings ∧
      (s.rrg.count < 2048 → (s.rrg.held ++
        [{ quality := quality s, seq := s.rrg.seq, date := s.rcu.time.stamp
           body := .server (BitVec.ofNat 8 i.val) sv.address (some sv.state) (some .silent) .silenced
             sv.fo sv.drift }]) <+: t.rrg.held) ∧
      SameBut [.dtr, .wru, .rrg, .rpe, .egm] s t

/-- SERVER_EVICTION of a LEARNED SILENT entry whose age has reached the eviction time: an EVICTED notice
takes the next sequence number, the entry becomes EMPTY and the evictions counter is incremented; a PINNED
entry stays (R108, R110). -/
def Obligations.SilentServerEvicted : Prop :=
  ∀ (i : Fin 48) (s : State) (sv : Server),
    serverAt i.val s = some sv → sv.state = .silent →
    s.dtr.settings.evictionTime * 125000000 ≤ (s.rcu.uptime - sv.lastQuery).toNat →
    Next (exec (.serverEviction i) s) fun t =>
      (if sv.pinned then t.dtr.servers = s.dtr.servers ∧ t.dtr.ctr = s.dtr.ctr
      else
        t.dtr.servers = s.dtr.servers.set i.val none ∧
        t.dtr.ctr = { s.dtr.ctr with evictions := bump s.dtr.ctr.evictions } ∧
        (s.rrg.count < 2048 → (s.rrg.held ++
          [{ quality := quality s, seq := s.rrg.seq, date := s.rcu.time.stamp
             body := .server (BitVec.ofNat 8 i.val) sv.address (some .silent) none .evicted
               sv.fo sv.drift }]) <+: t.rrg.held)) ∧
      SameBut [.dtr, .wru, .rrg, .rpe, .egm] s t

/-! ### Storage event dating -/

/-- STORAGE_COMMAND_END. A command that is not shown to DTE, for want of a DATE entry or of scope, changes
nothing there. One shown with profile q is shed and counted under pressure if q is sheddable (R136); else it
takes over the OPEN entry of its key, whose exchange closes REUSED with a record (R137, R147); else it opens
the lowest-numbered FREE entry and is counted dated, without a record (R138, R140); else, with no FREE entry,
it is counted undated (R139). The octets of the lines ride on the command (assumption 1). -/
def Obligations.StorageCommandDated : Prop :=
  ∀ (p : Port) (flow : Flow) (s : State) (a : Arriving),
    EndsGoodAs .storageCommand p flow a s → s.wru.testDue = false →
    let walk := datingWalk (storageKey a.settings a.octets) (ended p flow a s)
    let src := sourceAddress a.octets
    let key : ExchangeKey :=
      { initiator := src, flow := storageFlow a.settings a.octets, tag := storageTag a.settings a.octets }
    ((walk.2 = none ∨ inScope src s = false) → Next (exec (.storageCommandEnd p flow) s) fun t =>
      t.fcl.filters = walk.1.fcl.filters ∧ SameBut [.fcl, .egm] s t) ∧
    (∀ q : BitVec 3, walk.2 = some q → inScope src s = true →
      let profile := s.dte.profiles.getD q.toNat {}
      let new : Exchange :=
        { key := key
          op := BitVec.ofNat 8 (storageOp a.settings a.octets)
          profile := q
          stamp := a.ingress.stamp
          quality := a.ingress.quality
          epoch := a.ingress.epoch
          drifting := initiatorDrifting src s
          deadline := a.ingress.uptime + BitVec.ofNat 64 (profile.timeout * 125000000) }
      let dated (l : List Profile) := l.modify q.toNat fun c => { c with dated := bump c.dated }
      let shed := s.dte.profiles.modify q.toNat fun c => { c with shed := bump c.shed }
      let undated := s.dte.profiles.modify q.toNat fun c => { c with undated := bump c.undated }
      (s.rrg.pressure = true ∧ profile.sheddable = true →
        Next (exec (.storageCommandEnd p flow) s) fun t =>
          t.dte = { s.dte with profiles := shed } ∧ SameBut [.fcl, .dte, .egm] s t) ∧
      (s.rrg.pressure = false ∨ profile.sheddable = false →
        (∀ (i : Nat) (x : Exchange), s.dte.exchanges[i]? = some (some x) → x.key = key →
          ExchangesDistinct s → s.rrg.count < 2048 - s.rrg.reserve →
          Next (exec (.storageCommandEnd p flow) s) fun t =>
            t.dte.exchanges = s.dte.exchanges.set i (some new) ∧
            t.dte.profiles = dated (s.dte.profiles.modify x.profile.toNat
              fun c => { c with reused := bump c.reused }) ∧ t.dte.discarded = s.dte.discarded ∧
            t.rrg.held = s.rrg.held ++
              [{ quality := x.quality
                 stepped := decide (s.rcu.epoch ≠ x.epoch)
                 drifting := x.drifting
                 seq := s.rrg.seq
                 date := x.stamp
                 body := .exchange x.key x.op 0xFF .reused (BitVec.allOnes 32) }] ∧
            SameBut [.fcl, .dte, .wru, .rrg, .rpe, .egm] s t) ∧
        ((∀ e ∈ s.dte.exchanges, ∀ x ∈ e, x.key ≠ key) →
          (∀ i : Nat, s.dte.exchanges[i]? = some none → (∀ j < i, s.dte.exchanges[j]? ≠ some none) →
            Next (exec (.storageCommandEnd p flow) s) fun t =>
              t.dte = { s.dte with
                exchanges := s.dte.exchanges.set i (some new), profiles := dated s.dte.profiles } ∧
              SameBut [.fcl, .dte, .egm] s t) ∧
          ((∀ e ∈ s.dte.exchanges, e ≠ none) → Next (exec (.storageCommandEnd p flow) s) fun t =>
            t.dte = { s.dte with profiles := undated } ∧ SameBut [.fcl, .dte, .egm] s t))))

/-- STORAGE_COMPLETION_END of a completion whose key an OPEN entry holds: the entry becomes FREE, the
completed counter of its profile is incremented, and an EXCHANGE record is offered with the command's
stamp, the lower quality, the STEPPED flag, the completion's status and the latency, absent across a
step and saturated otherwise (R141 to R143). The octets of the lines ride on the command (assumption 1).
-/
def Obligations.CompletionClosesExchange : Prop :=
  ∀ (p : Port) (flow : Flow) (s : State) (a : Arriving) (i : Nat) (x : Exchange),
    EndsGoodAs .storageCompletion p flow a s →
    s.dte.exchanges[i]? = some (some x) → x.key = completionKey a → ExchangesDistinct s →
    s.rrg.count < 2048 - s.rrg.reserve →
    let diff := a.ingress.stamp.nanos - x.stamp.nanos
    Next (exec (.storageCompletionEnd p flow) s) fun t =>
      t.dte.exchanges = s.dte.exchanges.set i none ∧
      t.dte.profiles = s.dte.profiles.modify x.profile.toNat
        (fun c => { c with completed := bump c.completed }) ∧
      t.rrg.held = s.rrg.held ++
        [{ quality := if x.quality.code ≤ a.ingress.quality.code then x.quality else a.ingress.quality
           stepped := decide (a.ingress.epoch ≠ x.epoch)
           drifting := x.drifting
           seq := s.rrg.seq
           date := x.stamp
           body := .exchange x.key x.op (storageStatus a.settings a.octets) .completed
             (if a.ingress.epoch = x.epoch then
               BitVec.ofNat 32 (max 0 (min 4294967294 diff)).toNat
             else BitVec.allOnes 32) }] ∧
      t.fcl.filters = s.fcl.filters ∧ SameBut [.fcl, .dte, .wru, .rrg, .rpe, .egm] s t

/-- EXCHANGE_DEADLINE when uptime has reached the deadline: every OPEN entry with that deadline becomes
FREE and no other entry changes, and as many records take sequence numbers as entries closed (R145).
Whether an expiry is reached follows assumption 6. -/
def Obligations.DeadlineClosesExchanges : Prop :=
  ∀ (deadline : Uptime) (s : State), reached s.rcu.uptime deadline = true →
    Next (exec (.exchangeDeadline deadline) s) fun t =>
      t.dte.exchanges = s.dte.exchanges.map
        (fun e => if e.map Exchange.deadline = some deadline then none else e) ∧
      t.rrg.seq = s.rrg.seq + BitVec.ofNat 16
        (s.dte.exchanges.countP fun e => e.map Exchange.deadline == some deadline) ∧
      t.dte.discarded = s.dte.discarded ∧ SameBut [.dte, .wru, .rrg, .rpe, .egm] s t

/-- RESET_DATING returns OK in every state, frees every OPEN entry without a record, adds their number to
the discarded counter and returns it; the profiles keep their settings and counters (R153). -/
def Obligations.ResetDatingDiscards : Prop :=
  ∀ (ing : Ingress) (table index : Nat) (s : State),
    let n := s.dte.exchanges.countP Option.isSome
    let d := execute ing { kind := 4, table := table, index := index, param := [8] } s
    d.status = .ok ∧ d.data = be 2 n ∧ (∀ e ∈ d.state.dte.exchanges, e = none) ∧
      d.state.dte.exchanges.length = s.dte.exchanges.length ∧
      d.state.dte.discarded.toNat = min (s.dte.discarded.toNat + n) 4294967295 ∧
      d.state.dte.profiles = s.dte.profiles ∧ SameBut [.dte] s d.state

/-! ### The ring and the reports -/

/-- RING_FLUSH without a report in flight: every record is discarded and counted, oldest meets next, next
and the sequence counter keep their values, pressure turns off, and the number discarded is returned with
deferred no (R171). -/
def Obligations.RingFlushDiscards : Prop :=
  ∀ (ing : Ingress) (table index : Nat) (s : State), RingConsistent s → s.rpe.inFlight = none →
    let d := execute ing { kind := 4, table := table, index := index, param := [5] } s
    d.status = .ok ∧ d.data = be 2 s.rrg.count ++ [0] ∧ d.state.rrg.held = [] ∧
      d.state.rrg.count = 0 ∧ d.state.rrg.oldest = s.rrg.next ∧ d.state.rrg.next = s.rrg.next ∧
      d.state.rrg.seq = s.rrg.seq ∧ d.state.rrg.pressure = false ∧
      d.state.rrg.ctr = { s.rrg.ctr with flushed := addCount s.rrg.ctr.flushed s.rrg.count } ∧
      SameBut [.rrg] s d.state

/-- REPORT_TIMER_EXPIRY when the timer has reached its expiry: it reloads for one period, and either a
report is built at once, of the up to 40 oldest records, or the timer-due flag stays set; no record
leaves the ring (R178, R180, R181). Whether an expiry is reached follows assumption 6. -/
def Obligations.ReportTimerDrivesReport : Prop :=
  ∀ (s : State) (due : Uptime), s.rpe.timer = some due → reached s.rcu.uptime due = true →
    let q := s.mgu.station.collectorPort
    Next (exec .reportTimerExpiry s) fun t =>
      t.rpe.timer = some (due + BitVec.ofNat 64 (s.rpe.period * 125000)) ∧
      t.rpe.period = s.rpe.period ∧ t.rpe.threshold = s.rpe.threshold ∧
      SameBut [.rpe, .egm] s t ∧
      (if 0 < s.rrg.count ∧ s.rpe.inFlight = none ∧ s.mgu.station.collector ≠ 0 ∧
          (s.port q).link = true then
        t.rpe.timerDue = false ∧ t.rpe.reportNow = false ∧ t.rpe.seq = s.rpe.seq + 1 ∧
        t.rpe.inFlight.map InFlight.n = some (min s.rrg.count 40) ∧
        t.rpe.inFlight.map InFlight.port = some q ∧
        t.rpe.ctr.built = bump s.rpe.ctr.built ∧
        t.port q = { s.port q with queue := (s.port q).queue ++ [{ source := .report }] } ∧
        t.port q.other = s.port q.other
      else t.rpe.timerDue = true ∧ t.rpe.inFlight = s.rpe.inFlight ∧ t.egm = s.egm)

/-- EGRESS_END of a report of `n` records: the records leave the oldest end of the ring and are counted
as delivered, and a deferred flush, if set, then discards the rest; the report is counted sent and its
frame has left with a computed check sequence (R170, R172, R183, R194). The octets of the lines ride on
the command (assumption 1). What has left the line is the model's own record (assumption 14). -/
def Obligations.ReportEndDelivers : Prop :=
  ∀ (p : Port) (flow : Flow) (s : State) (o : List Byte) (k : Nat) (r : InFlight),
    (s.port p).egress = some (.own .report o k) → s.rpe.inFlight = some r →
    RingConsistent s → r.n ≤ s.rrg.count → s.wru.testDue = false →
    Next (exec (.egressEnd p flow) s) fun t =>
      t.rrg.ctr.delivered = addCount s.rrg.ctr.delivered r.n ∧
      (if s.rpe.deferredFlush then
        t.rrg.held = [] ∧ t.rrg.count = 0 ∧ t.rrg.oldest = s.rrg.next ∧
        t.rrg.ctr.flushed = addCount s.rrg.ctr.flushed (s.rrg.count - r.n) ∧
        t.rpe.inFlight = none
      else
        t.rrg.held = s.rrg.held.drop r.n ∧ t.rrg.count = s.rrg.count - r.n ∧
        t.rrg.oldest = (s.rrg.oldest + r.n) % 2048 ∧ t.rrg.ctr.flushed = s.rrg.ctr.flushed) ∧
      t.rrg.next = s.rrg.next ∧ t.rrg.seq = s.rrg.seq ∧ t.rpe.deferredFlush = false ∧
      t.rpe.ctr.sent = bump s.rpe.ctr.sent ∧
      (t.port p).departed = some { octets := o, check := .computed } ∧
      (t.port p).ctr.originatedSent = bump (s.port p).ctr.originatedSent ∧
      SameBut [.fcl, .rrg, .rpe, .egm] s t

/-! ### The egress merge -/

/-- FRAME_BOUNDARY of a port whose link is UP with no frame in egress: the frame that then leaves is the
one of the first case of R191 that applies, or none (R191). The octets of the lines ride on the command
(assumption 1). -/
def Obligations.ArbiterTakesFirstCase : Prop :=
  ∀ (p : Port) (flow : Flow) (s : State),
    let s1 := applyFlow flow s
    QueuesConsistent s1 → (s1.port p).link = true → (s1.port p).egress = none →
    let q := (s1.port p).queue
    let urgent := q.filter fun e => e.source.urgent
    Next (exec (.frameBoundary p flow) s) fun t =>
      t.port p.other = s1.port p.other ∧ SameBut [.fcl, .anu, .dse, .wru, .rpe, .egm] s t ∧
      (if urgent ≠ [] then ownInEgress t p = urgent.head?.map QueueEntry.source
      else if q ≠ [] ∧ occupancy (s1.port p) ≤ (s1.port p).deferMark then
        ownInEgress t p = some (if 0 < entriesOf .response s1 p then .response
          else if 0 < entriesOf .alert s1 p then .alert else .report)
      else if headReady (s1.port p) then
        (∃ r, (t.port p).egress = some (.pass r 1)) ∧ (t.port p).queue = q
      else if q ≠ [] then ownInEgress t p = q.head?.map QueueEntry.source
      else t = s1)

/-- FRAME_BOUNDARY at which the answer in slot `n` goes: the slot records t3 and the egress epoch, and the
frame leaves to the requester; untagged, it carries the time type, the domain, Ts, t2 and t3 in their places,
UNSERVED, and STEPPED when a step fell since t2; an unserved answer carries t2 and t3 zero, and the check
sequence is computed over the frame as it leaves (R7, R81, R82, R193), by the function of assumption 13. The
octets of the lines ride on the command (assumption 1). -/
def Obligations.AnswerStampedAtEgress : Prop :=
  ∀ (p : Port) (flow : Flow) (s : State) (n : Nat) (ans : Answer),
    let s1 := applyFlow flow s
    (s1.port p).link = true → (s1.port p).egress = none →
    (s1.port p).queue.head? = some { source := .slot n } → n < s.anu.slots.length →
    (s.anu.slots.getD n {}).answer = some ans →
    let t3 : Stamp := if ans.served then
        stampOfNanos (min (281474976710656 * 1000000000 - 1)
          (s.rcu.time.nanos + (s.rcu.egressComp.get p).toNat))
      else {}
    Next (exec (.frameBoundary p flow) s) fun t =>
      (t.anu.slots.getD n {}).answer = some { ans with egress := some (t3, s.rcu.epoch) } ∧
      (∃ o, (t.port p).egress = some (.own (.slot n) o 1) ∧
        checkIsGood o = true ∧ o.take 6 = be 6 ans.requester.toNat ∧ slice 6 6 o = be 6 ans.own.toNat ∧
        (ans.tag = none →
          slice 12 6 o = be 2 ans.timeType.toNat ++ [1, 2, ans.domain,
            BitVec.ofNat 8 ((if ans.served then 0 else 1) +
              (if s.rcu.epoch = ans.epoch then 0 else 2))] ∧
          slice 28 10 o = ans.ts.octets ∧
          slice 38 10 o = (if ans.served then ans.t2 else {}).octets ∧
          slice 48 10 o = t3.octets)) ∧
      SameBut [.fcl, .anu, .egm] s t

/-- FRAME_BOUNDARY at which a transit frame goes that has not ended bad: its residence field is the
received one, read as a signed 48-bit value, plus 2,048 units a tick and 256 units a nanosecond of
compensation, saturated, and a saturation is counted (R192). The octets of the lines ride on the command
(assumption 1). -/
def Obligations.ResidenceCorrected : Prop :=
  ∀ (p : Port) (flow : Flow) (s : State) (f : PassFrame) (rest : List PassFrame) (place : Nat),
    let s1 := applyFlow flow s
    (s1.port p).link = true → (s1.port p).egress = none → (s1.port p).queue = [] →
    (s1.port p).buffer = f :: rest → f.transit = some place → f.ready = true →
    headEndedBad p f s1 = false →
    let received := signed 6 (field place 6 f.octets)
    let sum : Int := received + (s.rcu.uptime - f.ingressUptime).toNat * 2048 +
      ((s.rcu.ingressComp.get p.other).toNat + (s.rcu.egressComp.get p).toNat) * 256
    Next (exec (.frameBoundary p flow) s) fun t =>
      (∃ r : BitVec 48, (t.port p).egress = some (.pass (some r) 1) ∧
        r.toInt = max (-140737488355328) (min 140737488355327 sum)) ∧
      (t.port p).ctr.residenceSaturations =
        (if sum < -140737488355328 ∨ 140737488355327 < sum then
          bump (s1.port p).ctr.residenceSaturations
        else (s1.port p).ctr.residenceSaturations) ∧
      (t.port p).buffer = f :: rest ∧ SameBut [.fcl, .egm] s t

/-- EGRESS_END of a pass-through frame whose arrival has ended: the frame leaves the buffer and is counted; a
corrected residence stands in the six octets of its place, and every other octet leaves as received; its check
sequence is computed for a rewritten frame that ended good, as received for a frame not rewritten, and forced
bad, the complement of the one computed over the octets sent, for a rewritten frame that ended bad and for a
frame whose arrival stopped (R188, R192 to R194). That the forced bad end is counted at this command is the
model's choice, and the check function is presumed (assumption 13). The octets of the lines ride on the
command (assumption 1). What has left the line is the model's own record (assumption 14). -/
def Obligations.PassThroughFrameLeaves : Prop :=
  ∀ (p : Port) (flow : Flow) (s : State) (f : PassFrame) (rest : List PassFrame)
    (r : Option (BitVec 48)) (k : Nat),
    let s1 := applyFlow flow s
    (s1.port p).egress = some (.pass r k) → (s1.port p).buffer = f :: rest →
    f.arrival ≠ .arriving → s.wru.testDue = false →
    let check : CheckSequence :=
      if f.arrival = .stopped then .forcedBad
      else if r = none then .received
      else if f.arrival = .good then .computed else .forcedBad
    let line := passOctets f r
    let sent := if r ≠ none ∧ f.arrival ≠ .stopped then line.take (line.length - 4) else line
    Next (exec (.egressEnd p flow) s) fun t =>
      (t.port p).buffer = rest ∧ (t.port p).egress = none ∧ (t.port p).queue = (s1.port p).queue ∧
      (t.port p).departed = some
        { octets := sent ++ (if check = .computed then checkSequence sent
            else if check = .forcedBad then (checkSequence sent).map (~~~ ·) else [])
          check := check } ∧
      (t.port p).ctr = { (s1.port p).ctr with
        passSent := bump (s1.port p).ctr.passSent
        forcedBadEnds := if check = .forcedBad then bump (s1.port p).ctr.forcedBadEnds
          else (s1.port p).ctr.forcedBadEnds } ∧
      (r = none ∨ f.transit = none → line = f.octets) ∧
      (∀ (place : Nat) (v : BitVec 48), f.transit = some place → r = some v →
        line = f.octets.take place ++ be 6 v.toNat ++ f.octets.drop (place + 6)) ∧
      t.port p.other = s1.port p.other ∧ SameBut [.fcl, .egm] s t

/-- EGRESS_END of an originated frame other than a report: it is counted sent, its entry leaves the queue in
the same effect, and its owner is told (R194). An answer: its slot becomes FREE with its contents cleared and
the answers-sent counter of the slot is incremented (R83). A probe: it is counted sent, and a held probe
enters the queue of its port (R27). A management response without a PART_RESET: it is counted, and MGU is idle
(R208). An alert copy: it is ENDED and counted, a manager copy in its own counter too; the alert ends with its
last copy, the last alert end becoming this instant, and the shared entry stays for its manager copy (R126,
R190), where no new alert can be built at once. The octets of the lines ride on the command (assumption 1).
What has left the line is the model's own record (assumption 14). -/
def Obligations.OriginatedFrameEnds : Prop :=
  ∀ (p : Port) (flow : Flow) (s : State) (src : Source) (o : List Byte) (k : Nat),
    (s.port p).egress = some (.own src o k) → s.wru.testDue = false →
    let e := (applyFlow flow s).port p
    let other := (applyFlow flow s).port p.other
    let left (q : List QueueEntry) : Egm := { e with
      queue := q
      egress := none
      departed := some { octets := o, check := .computed }
      ctr := { e.ctr with originatedSent := bump e.ctr.originatedSent } }
    let gone := e.queue.filter fun x => !x.inEgress
    (∀ n : Nat, src = .slot n → Next (exec (.egressEnd p flow) s) fun t =>
      t.anu = { s.anu with slots := s.anu.slots.modify n fun sl =>
        { sl with answer := none, sent := bump sl.sent } } ∧
      t.port p = left gone ∧ t.port p.other = other ∧ SameBut [.fcl, .anu, .egm] s t) ∧
    (src = .probe → s.dse.held = none → Next (exec (.egressEnd p flow) s) fun t =>
      t.dse = { s.dse with
        frame := none
        ctr := { s.dse.ctr with probesSent := bump s.dse.ctr.probesSent } } ∧
      t.port p = left gone ∧ t.port p.other = other ∧ SameBut [.fcl, .dse, .egm] s t) ∧
    (∀ f : ProbeFrame, src = .probe → s.dse.held = some f → (s.port f.port).link = true →
      Next (exec (.egressEnd p flow) s) fun t =>
        t.dse = { s.dse with
          frame := some f
          held := none
          ctr := { s.dse.ctr with probesSent := bump s.dse.ctr.probesSent } } ∧
        t.port p = left (if f.port = p then gone ++ [{ source := .probe }] else gone) ∧
        t.port p.other = (if f.port = p then other
          else { other with queue := other.queue ++ [{ source := .probe }] }) ∧
        SameBut [.fcl, .dse, .egm] s t) ∧
    (∀ r : Response, src = .response → s.mgu.response = some r → r.resetPending = false →
      Next (exec (.egressEnd p flow) s) fun t =>
        t.mgu = { s.mgu with
          response := none
          ctr := { s.mgu.ctr with responsesSent := bump s.mgu.ctr.responsesSent } } ∧
        t.port p = left gone ∧ t.port p.other = other ∧ SameBut [.fcl, .egm, .mgu] s t) ∧
    (∀ a : Alert, src = .alert → s.wru.alert = some a →
      (s.wru.alertDue = false ∨ 0 < s.wru.holdOff) →
      (a.collector.port = p ∧ a.collector.phase = .sending →
        let after : Alert := { a with
          collector := { a.collector with phase := .ended }, lastEnd := some s.rcu.uptime }
        Next (exec (.egressEnd p flow) s) fun t =>
          t.wru = { s.wru with
            alert := if after.live then some after else none
            lastAlertEnd := if after.live then s.wru.lastAlertEnd else some s.rcu.uptime
            ctr := { s.wru.ctr with framesSent := bump s.wru.ctr.framesSent } } ∧
          t.port p = left (if a.manager.any (fun m => m.port == p && m.phase == .queued) then
            e.queue.map fun x => { x with inEgress := false } else gone) ∧
          t.port p.other = other ∧ SameBut [.fcl, .wru, .egm] s t) ∧
      (∀ m : AlertCopy, a.manager = some m → m.port = p → m.phase = .sending →
        (a.collector.port ≠ p ∨ a.collector.phase = .ended ∨ a.collector.phase = .dropped) →
        let after : Alert := { a with
          manager := some { m with phase := .ended }, lastEnd := some s.rcu.uptime }
        Next (exec (.egressEnd p flow) s) fun t =>
          t.wru = { s.wru with
            alert := if after.live then some after else none
            lastAlertEnd := if after.live then s.wru.lastAlertEnd else some s.rcu.uptime
            ctr := { s.wru.ctr with
              framesSent := bump s.wru.ctr.framesSent
              managerSent := bump s.wru.ctr.managerSent } } ∧
          t.port p = left gone ∧ t.port p.other = other ∧ SameBut [.fcl, .wru, .egm] s t))

/-- EGRESS_END of a PART_RESET response performs soft reset as one effect: what R211 keeps is kept, and
the rest of the part takes its reset values, with no record or warning (R21, R51, R75, R88, R117, R131,
R157, R176, R186, R199, R211, R212). The octets of the lines ride on the command (assumption 1). -/
def Obligations.PartResetSoftResets : Prop :=
  ∀ (p : Port) (flow : Flow) (s : State) (o : List Byte) (k : Nat) (r : Response),
    (s.port p).egress = some (.own .response o k) → s.mgu.response = some r → r.resetPending = true →
    Next (exec (.egressEnd p flow) s) fun t =>
      t.rcu = { s.rcu with
        s := 0, a := appliedRate s.rcu.f 0, k := increment (appliedRate s.rcu.f 0)
        phaseTimer := none, pulseFloor := .lock, pulse := false, pulseTimer := none } ∧
      t.dse = { State.reset.dse with history := s.dse.history } ∧
      t.fcl = State.reset.fcl ∧ t.anu = State.reset.anu ∧ t.dtr = State.reset.dtr ∧
      t.wru = State.reset.wru ∧ t.dte = State.reset.dte ∧ t.rrg = State.reset.rrg ∧
      t.rpe = { State.reset.rpe with timer := some (s.rcu.uptime + 125000000) } ∧
      (∀ q : Port, (t.port q).link = (s.port q).link ∧ (t.port q).buffer = [] ∧
        (t.port q).queue = [] ∧ (t.port q).egress = none ∧ (t.port q).deferMark = 16384 ∧
        (t.port q).ctr = {}) ∧
      t.mgu.station = { State.reset.mgu.station with
        own := s.mgu.station.own, manager := s.mgu.station.manager, rackId := s.mgu.station.rackId
        timeType := s.mgu.station.timeType, storageType := s.mgu.station.storageType } ∧
      t.mgu.reading = s.mgu.reading ∧ t.mgu.bootFault = s.mgu.bootFault ∧
      t.mgu.managerPort = .u ∧ t.mgu.response = none ∧ t.mgu.ctr = {}

/-- LINK_LOSS on a port whose link is UP: the link is DOWN, its buffer and queue are empty and nothing is in
egress; each frame its buffer held counts as a link drop, each answer of the port is dropped and counted, and
the answers of the other port, rack time and the other link stay. A frame that was arriving on the port ends
bad there and is counted, and its copy for the other port stands as one whose arrival stopped. A frame
arriving on the other port loses its course through this one: its octets still to come are discarded, and if
FCL has not decided it, it becomes a refusal by link unless its first octet was refused already (R53, R54,
R84, R187, R196, R197; assumption 3). The octets of the lines ride on the command (assumption 1). -/
def Obligations.LinkLossEmptiesPort : Prop :=
  ∀ (p : Port) (flow : Flow) (s : State), QueuesConsistent s → (s.port p).link = true →
    let s1 := applyFlow flow s
    let other := s1.port p.other
    let left : Egm := match s1.arriving p with
      | none => other
      | some a => forwardedBad a .stopped other
    Next (exec (.linkLoss p flow) s) fun t =>
      (t.port p).link = false ∧ (t.port p).buffer = [] ∧ (t.port p).queue = [] ∧
      (t.port p).egress = none ∧ (t.port p.other).link = (s.port p.other).link ∧
      (t.port p).ctr.linkDrops = addCount (s1.port p).ctr.linkDrops (s1.port p).buffer.length ∧
      (∀ n : Fin 8, (t.anu.slots.getD n.val {}) =
        (if slotPort s n.val = some p then
          { s.anu.slots.getD n.val {} with
            answer := none, dropped := bump (s.anu.slots.getD n.val {}).dropped }
        else s.anu.slots.getD n.val {})) ∧
      (t.port p.other).buffer = left.buffer ∧
      (t.port p.other).ctr.bufferFull = left.ctr.bufferFull ∧
      (t.port p.other).ctr.linkDrops = left.ctr.linkDrops ∧
      t.fcl.ctr.get p = (match s1.arriving p with
        | none => s.fcl.ctr.get p
        | some a => countedBad a (s.fcl.ctr.get p)) ∧
      t.arriving p = none ∧ t.rcu.time = s.rcu.time ∧
      t.arriving p.other = (s1.arriving p.other).map (fun a =>
        if a.course = .passed then { a with course := .refused }
        else if a.course = .undecided ∧ a.admission = .room then { a with admission := .down }
        else a) ∧
      SameBut [.rcu, .dse, .fcl, .anu, .wru, .rrg, .rpe, .egm, .mgu] s t

/-- LINK_UP on a port whose link is DOWN: the link is UP. On the collector port, with a collector set, an alert
that is due is built if none is in progress and the hold-off has run out, and then a report that is due is
built if none is in flight (R124, R180, R197); the order of the two, and that on the other port nothing else
changes, is the model's reading (assumption 18). -/
def Obligations.LinkUpMakesTests : Prop :=
  ∀ (p : Port) (s : State), (s.port p).link = false →
    let tests := p = s.mgu.station.collectorPort ∧ s.mgu.station.collector ≠ 0
    let alerts := tests ∧ s.wru.alertDue = true ∧ s.wru.alert = none ∧
      s.wru.lastAlertEnd.all (fun last =>
        decide (s.wru.holdOff * 125000 ≤ (s.rcu.uptime - last).toNat)) = true
    let reports := tests ∧ s.rpe.inFlight = none ∧ 0 < s.rrg.count ∧
      (s.rpe.threshold ≤ s.rrg.count ∨ s.rrg.pressure = true ∨ s.rpe.timerDue = true ∨
        s.rpe.reportNow = true)
    let copied := s.wru.copyToManager = true ∧ s.mgu.station.manager ≠ 0 ∧ s.mgu.managerPort ≠ p ∧
      (s.port p.other).link = true
    Next (exec (.linkUp p) s) fun t =>
      t.port p = { s.port p with
        link := true
        queue := (s.port p).queue ++ (if alerts then [{ source := .alert }] else []) ++
          (if reports then [{ source := .report }] else []) } ∧
      t.port p.other = (if alerts ∧ copied then
          { s.port p.other with queue := (s.port p.other).queue ++ [{ source := .alert }] }
        else s.port p.other) ∧
      (if alerts then
        t.wru.alert.map Alert.collector = some
          { port := p, phase := .queued, octets := alertFrame s.mgu.station.collector s } ∧
        t.wru.alertDue = false ∧ t.wru.alertSeq = s.wru.alertSeq + 1 ∧
        t.wru.ctr.built = bump s.wru.ctr.built
      else t.wru = s.wru) ∧
      (if reports then
        t.rpe.inFlight = some
          { sending := false, port := p, n := min s.rrg.count 40, first := firstSequence s } ∧
        t.rpe.seq = s.rpe.seq + 1 ∧ t.rpe.timerDue = false ∧ t.rpe.reportNow = false
      else t.rpe = s.rpe) ∧
      SameBut [.wru, .rpe, .egm] s t

/-- HOLD_OFF_EXPIRY with alert-due set, a collector whose port is UP, no alert in progress and the hold-off
run out: an alert is built with the snapshot of the instant, its collector copy is queued behind the port's
entries, the alert sequence advances and alert-due is cleared (R124). With copy-to-manager on and a manager
address set, the manager copy joins the collector's entry on one port, is queued on another port that is UP,
and is left out and counted on one that is DOWN (R125). Without alert-due nothing changes. -/
def Obligations.AlertBuiltAfterHoldOff : Prop :=
  ∀ s : State,
    (∀ last ∈ s.wru.lastAlertEnd, s.wru.holdOff * 125000 ≤ (s.rcu.uptime - last).toNat) →
    s.mgu.station.collector ≠ 0 → (s.port s.mgu.station.collectorPort).link = true →
    s.wru.alert = none →
    let q := s.mgu.station.collectorPort
    let m := s.mgu.managerPort
    let formed := s.wru.copyToManager = true ∧ s.mgu.station.manager ≠ 0
    let omitted := formed ∧ m ≠ q ∧ (s.port m).link = false
    let separate := formed ∧ m ≠ q ∧ (s.port m).link = true
    Next (exec .holdOffExpiry s) fun t =>
      if s.wru.alertDue then
        t.wru = { s.wru with
          alert := some
            { collector := { port := q, phase := .queued
                             octets := alertFrame s.mgu.station.collector s }
              manager := if formed ∧ ¬omitted then
                  some { port := m, phase := .queued, octets := alertFrame s.mgu.station.manager s }
                else none }
          alertSeq := s.wru.alertSeq + 1
          alertDue := false
          ctr := { s.wru.ctr with
            built := bump s.wru.ctr.built
            managerOmitted := if omitted then bump s.wru.ctr.managerOmitted
              else s.wru.ctr.managerOmitted } } ∧
        t.port q = { s.port q with queue := (s.port q).queue ++ [{ source := .alert }] } ∧
        t.port q.other = (if separate then
            { s.port q.other with queue := (s.port q.other).queue ++ [{ source := .alert }] }
          else s.port q.other) ∧ SameBut [.wru, .egm] s t
      else t = s

/-! ### Management -/

/-- MGMT_REQ_END: a frame not from the manager, one that finds MGU busy, and one whose body is malformed are
each dropped with their counter and nothing else; any other is accepted: the manager port becomes its arrival
port, and its response is queued there if the link is UP, else dropped and counted. A frame of one request
leaves every block as executing it does, the alert build test that this calls for made, but for the response,
which carries the result (R200, R201, R207, R208). The octets of the lines ride on the command (assumption 1).
The serial is the model's own (assumption 8), and that the frame is counted in frames in before its requests
execute is the model's choice (assumption 24). -/
def Obligations.ManagementFrameTested : Prop :=
  ∀ (p : Port) (flow : Flow) (s : State) (a : Arriving),
    EndsGoodAs .mgmtReq p flow a s → s.wru.testDue = false →
    let m := s.mgu
    let passes := m.station.manager = 0 ∨ sourceAddress a.octets = m.station.manager
    let body := gtpBody a.settings a.octets
    Next (exec (.mgmtReqEnd p flow) s) fun t =>
      if ¬passes then
        t.mgu = { m with ctr := { m.ctr with refusedSource := bump m.ctr.refusedSource } } ∧
        SameBut [.fcl, .egm, .mgu] s t
      else if m.response.isSome then
        t.mgu = { m with ctr := { m.ctr with busyDrops := bump m.ctr.busyDrops } } ∧
        SameBut [.fcl, .egm, .mgu] s t
      else if requestsOf body = none then
        t.mgu = { m with ctr := { m.ctr with malformed := bump m.ctr.malformed } } ∧
        SameBut [.fcl, .egm, .mgu] s t
      else
        t.mgu.managerPort = p ∧
        (if (s.port p).link then
          t.mgu.response.map Response.port = some p ∧ { source := .response } ∈ (t.port p).queue
        else t.mgu.response = none) ∧
        (∀ r : Request, requestsOf body = some [r] →
          let d := execute a.ingress r { ended p flow a s with
            mgu := { m with
              managerPort := p
              ctr := { m.ctr with accepted := bump m.ctr.accepted } }
            serial := s.serial + 1 }
          let e := finish d.state
          let response : Response :=
            { octets := gtpFrame (sourceAddress a.octets) e.mgu.station.own
                (tagOf a.settings a.octets) e.mgu.station.timeType 6
                (gtpDomain a.settings a.octets) 0 (gtpSequence a.settings a.octets)
                (be 1 1 ++ resultOctets r d.status d.data)
              port := p
              resetPending := r.isPartReset }
          SameBut [.egm, .mgu] e t ∧ t.port p.other = e.port p.other ∧
          (if (s.port p).link then
            t.port p = { e.port p with queue := (e.port p).queue ++ [{ source := .response }] } ∧
            t.mgu = { e.mgu with response := some response }
          else
            t.port p = { e.port p with ctr := { (e.port p).ctr with
              originatedDrops := bump (e.port p).ctr.originatedDrops } } ∧
            t.mgu = { e.mgu with
              response := none
              ctr := { e.mgu.ctr with responsesDropped := bump e.mgu.ctr.responsesDropped } }))

/-- A request that is not answered OK or CLAMPED changes no state of the part and carries no data
(R202). -/
def Obligations.RefusedRequestChangesNothing : Prop :=
  ∀ (ing : Ingress) (r : Request) (s : State),
    let d := execute ing r s
    d.status ≠ .ok → d.status ≠ .clamped → d.state = s ∧ d.data = []

/-- A READ of a table, with a count from 1 to 4, returns the entries from its index up to that many, in
ascending index, with their number, and changes no state (R203). -/
def Obligations.ReadReturnsEntries : Prop :=
  ∀ (ing : Ingress) (table index : Nat) (count : Byte) (s : State) (l : List (List Byte)),
    tableEntries s table = some l → index < l.length → 1 ≤ count.toNat → count.toNat ≤ 4 →
    let d := execute ing { kind := 1, table := table, index := index, param := [count] } s
    let n := min count.toNat (l.length - index)
    d.status = .ok ∧ d.state = s ∧
      d.data = BitVec.ofNat 8 n :: ((List.range n).map fun i => l.getD (index + i) []).flatten

/-- A WRITE of a filter row by the layout of 12.4 returns OK and stores the fields that were written,
together; the entry keeps its hit counter, and nothing else changes (R62). -/
def Obligations.FilterRowStoredAsWritten : Prop :=
  ∀ (ing : Ingress) (i : Nat) (f old : Filter) (s : State),
    i < 32 → s.fcl.filters.length = 32 → s.fcl.filters[i]? = some old →
    execute ing { kind := 2, table := 3, index := i, param := filterRow f } s =
      { status := .ok, data := []
        state := { s with fcl := { s.fcl with
          filters := s.fcl.filters.set i { f with hits := old.hits } } } }

/-- RESET_COUNTERS zeroes every counter of every table, and leaves rack time, the discipline's runs, the
answers, the overrun flags, the servers' states, the warnings, the exchanges and the ring's records and
sequence (R210). -/
def Obligations.ResetCountersZeroesAll : Prop :=
  ∀ (ing : Ingress) (table index t i : Nat) (s : State) (l : List (List Byte)) (e : List Byte),
    TableSizes s →
    let d := execute ing { kind := 4, table := table, index := index, param := [10] } s
    tableEntries d.state t = some l → l[i]? = some e →
    d.status = .ok ∧ (access t i = .swap 4 → e = [0, 0, 0, 0]) ∧
      d.state.dse = { s.dse with ctr := d.state.dse.ctr } ∧
      d.state.wru = { s.wru with ctr := d.state.wru.ctr } ∧
      d.state.rrg = { s.rrg with ctr := d.state.rrg.ctr } ∧
      d.state.rpe = { s.rpe with ctr := d.state.rpe.ctr } ∧
      d.state.dte.exchanges = s.dte.exchanges ∧
      d.state.anu.slots.map Slot.answer = s.anu.slots.map Slot.answer ∧
      d.state.anu.slots.map Slot.overrunFlag = s.anu.slots.map Slot.overrunFlag ∧
      d.state.dtr.servers.map (Option.map Server.state) =
        s.dtr.servers.map (Option.map Server.state) ∧
      SameBut [.dse, .fcl, .anu, .dtr, .wru, .dte, .rrg, .rpe, .egm, .mgu] s d.state

/-- A SWAP of the pending set returns it as it stood and replaces it with the low 54 bits written, decides
the alert line again, and sets alert-due when a frame-enabled bit changes from clear to set; the condition
set is not changed (R122, R123, R128). -/
def Obligations.PendingSetSwapped : Prop :=
  ∀ (ing : Ingress) (v : List Byte) (s : State), v.length = 7 →
    let d := execute ing { kind := 3, table := 8, index := 0, param := v } s
    let new := BitVec.ofNat 54 (ofBe v)
    d.status = .ok ∧ d.data = be 7 s.wru.pending.toNat ∧ d.state.wru.pending = new ∧
      (d.state.wru.alertLine = true ↔
        ∃ b : Fin 54, new.getLsbD b.val = true ∧ s.wru.lineMask.getLsbD b.val = true) ∧
      (d.state.wru.alertDue = true ↔ s.wru.alertDue = true ∨
        ∃ b : Fin 54, new.getLsbD b.val = true ∧ s.wru.pending.getLsbD b.val = false ∧
          s.wru.frameMask.getLsbD b.val = true) ∧
      d.state.wru.condition = s.wru.condition ∧ SameBut [.wru] s d.state
end

