-- ==== Sys2Proof/Laws/State.lean ====
section
/-! SUPPORT. The named updates of State, field by field: what each leaves as it was, and what it puts. -/

namespace Sys2Proof.Machine

/-! ### One value for each port -/

@[simp] theorem perPort_get_set_same {α : Type} (x : PerPort α) (p : Port) (v : α) :
    (x.set p v).get p = v := by
  cases p <;> rfl

@[simp] theorem perPort_get_set_other {α : Type} (x : PerPort α) (p : Port) (v : α) :
    (x.set p v).get p.other = x.get p.other := by
  cases p <;> rfl

@[simp] theorem perPort_get_other_set {α : Type} (x : PerPort α) (p : Port) (v : α) :
    (x.set p.other v).get p = x.get p := by
  cases p <;> rfl

theorem perPort_get_set_ne {α : Type} (x : PerPort α) (p q : Port) (v : α) (h : q ≠ p) :
    (x.set p v).get q = x.get q := by
  cases p <;> cases q <;> first | rfl | exact absurd rfl h

@[simp] theorem port_other_other (p : Port) : p.other.other = p := by
  cases p <;> rfl

@[simp] theorem port_other_ne (p : Port) : p.other ≠ p := by
  cases p <;> decide

@[simp] theorem port_ne_other (p : Port) : p ≠ p.other := by
  cases p <;> decide

/-! ### Reading a port of an updated state -/

@[simp] theorem setPort_port_same (s : State) (p : Port) (e : Egm) : (s.setPort p e).port p = e := by
  cases p <;> rfl

@[simp] theorem setPort_port_other (s : State) (p : Port) (e : Egm) :
    (s.setPort p e).port p.other = s.port p.other := by
  cases p <;> rfl

theorem setPort_port_ne (s : State) (p q : Port) (e : Egm) (h : q ≠ p) :
    (s.setPort p e).port q = s.port q := perPort_get_set_ne _ _ _ _ h

@[simp] theorem setPort_arriving (s : State) (p q : Port) (e : Egm) :
    (s.setPort p e).arriving q = s.arriving q := rfl

@[simp] theorem setArriving_arriving_same (s : State) (p : Port) (a : Option Arriving) :
    (s.setArriving p a).arriving p = a := by
  cases p <;> rfl

@[simp] theorem setArriving_arriving_other (s : State) (p : Port) (a : Option Arriving) :
    (s.setArriving p a).arriving p.other = s.arriving p.other := by
  cases p <;> rfl

@[simp] theorem setArriving_port (s : State) (p q : Port) (a : Option Arriving) :
    (s.setArriving p a).port q = s.port q := rfl

@[simp] theorem countIngress_port (s : State) (p q : Port) (f : IngressCounters → IngressCounters) :
    (s.countIngress p f).port q = s.port q := rfl

@[simp] theorem countIngress_arriving (s : State) (p q : Port) (f : IngressCounters → IngressCounters) :
    (s.countIngress p f).arriving q = s.arriving q := rfl

@[simp] theorem countEgress_arriving (s : State) (p q : Port) (f : EgmCounters → EgmCounters) :
    (s.countEgress p f).arriving q = s.arriving q := rfl

@[simp] theorem countEgress_port_same (s : State) (p : Port) (f : EgmCounters → EgmCounters) :
    (s.countEgress p f).port p = { s.port p with ctr := f (s.port p).ctr } := by
  cases p <;> rfl

@[simp] theorem countEgress_port_other (s : State) (p : Port) (f : EgmCounters → EgmCounters) :
    (s.countEgress p f).port p.other = s.port p.other := by
  cases p <;> rfl


/-! ### setPort -/

@[simp] theorem setPort_rcu (s : State) (p : Port) (e : Egm) :
    (s.setPort p e).rcu = s.rcu := rfl

@[simp] theorem setPort_dse (s : State) (p : Port) (e : Egm) :
    (s.setPort p e).dse = s.dse := rfl

@[simp] theorem setPort_fcl (s : State) (p : Port) (e : Egm) :
    (s.setPort p e).fcl = s.fcl := rfl

@[simp] theorem setPort_anu (s : State) (p : Port) (e : Egm) :
    (s.setPort p e).anu = s.anu := rfl

@[simp] theorem setPort_dtr (s : State) (p : Port) (e : Egm) :
    (s.setPort p e).dtr = s.dtr := rfl

@[simp] theorem setPort_wru (s : State) (p : Port) (e : Egm) :
    (s.setPort p e).wru = s.wru := rfl

@[simp] theorem setPort_dte (s : State) (p : Port) (e : Egm) :
    (s.setPort p e).dte = s.dte := rfl

@[simp] theorem setPort_rrg (s : State) (p : Port) (e : Egm) :
    (s.setPort p e).rrg = s.rrg := rfl

@[simp] theorem setPort_rpe (s : State) (p : Port) (e : Egm) :
    (s.setPort p e).rpe = s.rpe := rfl

@[simp] theorem setPort_egm (s : State) (p : Port) (e : Egm) :
    (s.setPort p e).egm = s.egm.set p e := rfl

@[simp] theorem setPort_mgu (s : State) (p : Port) (e : Egm) :
    (s.setPort p e).mgu = s.mgu := rfl

@[simp] theorem setPort_resetHeld (s : State) (p : Port) (e : Egm) :
    (s.setPort p e).resetHeld = s.resetHeld := rfl

@[simp] theorem setPort_serial (s : State) (p : Port) (e : Egm) :
    (s.setPort p e).serial = s.serial := rfl

@[simp] theorem setPort_pending (s : State) (p : Port) (e : Egm) :
    (s.setPort p e).pending = s.pending := rfl


/-! ### setArriving -/

@[simp] theorem setArriving_rcu (s : State) (p : Port) (a : Option Arriving) :
    (s.setArriving p a).rcu = s.rcu := rfl

@[simp] theorem setArriving_dse (s : State) (p : Port) (a : Option Arriving) :
    (s.setArriving p a).dse = s.dse := rfl

@[simp] theorem setArriving_fcl (s : State) (p : Port) (a : Option Arriving) :
    (s.setArriving p a).fcl = { s.fcl with arriving := s.fcl.arriving.set p a } := rfl

@[simp] theorem setArriving_anu (s : State) (p : Port) (a : Option Arriving) :
    (s.setArriving p a).anu = s.anu := rfl

@[simp] theorem setArriving_dtr (s : State) (p : Port) (a : Option Arriving) :
    (s.setArriving p a).dtr = s.dtr := rfl

@[simp] theorem setArriving_wru (s : State) (p : Port) (a : Option Arriving) :
    (s.setArriving p a).wru = s.wru := rfl

@[simp] theorem setArriving_dte (s : State) (p : Port) (a : Option Arriving) :
    (s.setArriving p a).dte = s.dte := rfl

@[simp] theorem setArriving_rrg (s : State) (p : Port) (a : Option Arriving) :
    (s.setArriving p a).rrg = s.rrg := rfl

@[simp] theorem setArriving_rpe (s : State) (p : Port) (a : Option Arriving) :
    (s.setArriving p a).rpe = s.rpe := rfl

@[simp] theorem setArriving_egm (s : State) (p : Port) (a : Option Arriving) :
    (s.setArriving p a).egm = s.egm := rfl

@[simp] theorem setArriving_mgu (s : State) (p : Port) (a : Option Arriving) :
    (s.setArriving p a).mgu = s.mgu := rfl

@[simp] theorem setArriving_resetHeld (s : State) (p : Port) (a : Option Arriving) :
    (s.setArriving p a).resetHeld = s.resetHeld := rfl

@[simp] theorem setArriving_serial (s : State) (p : Port) (a : Option Arriving) :
    (s.setArriving p a).serial = s.serial := rfl

@[simp] theorem setArriving_pending (s : State) (p : Port) (a : Option Arriving) :
    (s.setArriving p a).pending = s.pending := rfl


/-! ### countIngress -/

@[simp] theorem countIngress_rcu (s : State) (p : Port) (f : IngressCounters → IngressCounters) :
    (s.countIngress p f).rcu = s.rcu := rfl

@[simp] theorem countIngress_dse (s : State) (p : Port) (f : IngressCounters → IngressCounters) :
    (s.countIngress p f).dse = s.dse := rfl

@[simp] theorem countIngress_fcl (s : State) (p : Port) (f : IngressCounters → IngressCounters) :
    (s.countIngress p f).fcl = { s.fcl with ctr := s.fcl.ctr.set p (f (s.fcl.ctr.get p)) } := rfl

@[simp] theorem countIngress_anu (s : State) (p : Port) (f : IngressCounters → IngressCounters) :
    (s.countIngress p f).anu = s.anu := rfl

@[simp] theorem countIngress_dtr (s : State) (p : Port) (f : IngressCounters → IngressCounters) :
    (s.countIngress p f).dtr = s.dtr := rfl

@[simp] theorem countIngress_wru (s : State) (p : Port) (f : IngressCounters → IngressCounters) :
    (s.countIngress p f).wru = s.wru := rfl

@[simp] theorem countIngress_dte (s : State) (p : Port) (f : IngressCounters → IngressCounters) :
    (s.countIngress p f).dte = s.dte := rfl

@[simp] theorem countIngress_rrg (s : State) (p : Port) (f : IngressCounters → IngressCounters) :
    (s.countIngress p f).rrg = s.rrg := rfl

@[simp] theorem countIngress_rpe (s : State) (p : Port) (f : IngressCounters → IngressCounters) :
    (s.countIngress p f).rpe = s.rpe := rfl

@[simp] theorem countIngress_egm (s : State) (p : Port) (f : IngressCounters → IngressCounters) :
    (s.countIngress p f).egm = s.egm := rfl

@[simp] theorem countIngress_mgu (s : State) (p : Port) (f : IngressCounters → IngressCounters) :
    (s.countIngress p f).mgu = s.mgu := rfl

@[simp] theorem countIngress_resetHeld (s : State) (p : Port) (f : IngressCounters → IngressCounters) :
    (s.countIngress p f).resetHeld = s.resetHeld := rfl

@[simp] theorem countIngress_serial (s : State) (p : Port) (f : IngressCounters → IngressCounters) :
    (s.countIngress p f).serial = s.serial := rfl

@[simp] theorem countIngress_pending (s : State) (p : Port) (f : IngressCounters → IngressCounters) :
    (s.countIngress p f).pending = s.pending := rfl


/-! ### countEgress -/

@[simp] theorem countEgress_rcu (s : State) (p : Port) (f : EgmCounters → EgmCounters) :
    (s.countEgress p f).rcu = s.rcu := rfl

@[simp] theorem countEgress_dse (s : State) (p : Port) (f : EgmCounters → EgmCounters) :
    (s.countEgress p f).dse = s.dse := rfl

@[simp] theorem countEgress_fcl (s : State) (p : Port) (f : EgmCounters → EgmCounters) :
    (s.countEgress p f).fcl = s.fcl := rfl

@[simp] theorem countEgress_anu (s : State) (p : Port) (f : EgmCounters → EgmCounters) :
    (s.countEgress p f).anu = s.anu := rfl

@[simp] theorem countEgress_dtr (s : State) (p : Port) (f : EgmCounters → EgmCounters) :
    (s.countEgress p f).dtr = s.dtr := rfl

@[simp] theorem countEgress_wru (s : State) (p : Port) (f : EgmCounters → EgmCounters) :
    (s.countEgress p f).wru = s.wru := rfl

@[simp] theorem countEgress_dte (s : State) (p : Port) (f : EgmCounters → EgmCounters) :
    (s.countEgress p f).dte = s.dte := rfl

@[simp] theorem countEgress_rrg (s : State) (p : Port) (f : EgmCounters → EgmCounters) :
    (s.countEgress p f).rrg = s.rrg := rfl

@[simp] theorem countEgress_rpe (s : State) (p : Port) (f : EgmCounters → EgmCounters) :
    (s.countEgress p f).rpe = s.rpe := rfl

@[simp] theorem countEgress_egm (s : State) (p : Port) (f : EgmCounters → EgmCounters) :
    (s.countEgress p f).egm = s.egm.set p { s.port p with ctr := f (s.port p).ctr } := rfl

@[simp] theorem countEgress_mgu (s : State) (p : Port) (f : EgmCounters → EgmCounters) :
    (s.countEgress p f).mgu = s.mgu := rfl

@[simp] theorem countEgress_resetHeld (s : State) (p : Port) (f : EgmCounters → EgmCounters) :
    (s.countEgress p f).resetHeld = s.resetHeld := rfl

@[simp] theorem countEgress_serial (s : State) (p : Port) (f : EgmCounters → EgmCounters) :
    (s.countEgress p f).serial = s.serial := rfl

@[simp] theorem countEgress_pending (s : State) (p : Port) (f : EgmCounters → EgmCounters) :
    (s.countEgress p f).pending = s.pending := rfl


/-! ### countDse -/

@[simp] theorem countDse_rcu (s : State) (f : DseCounters → DseCounters) :
    (countDse f s).rcu = s.rcu := rfl

@[simp] theorem countDse_dse (s : State) (f : DseCounters → DseCounters) :
    (countDse f s).dse = { s.dse with ctr := f s.dse.ctr } := rfl

@[simp] theorem countDse_fcl (s : State) (f : DseCounters → DseCounters) :
    (countDse f s).fcl = s.fcl := rfl

@[simp] theorem countDse_anu (s : State) (f : DseCounters → DseCounters) :
    (countDse f s).anu = s.anu := rfl

@[simp] theorem countDse_dtr (s : State) (f : DseCounters → DseCounters) :
    (countDse f s).dtr = s.dtr := rfl

@[simp] theorem countDse_wru (s : State) (f : DseCounters → DseCounters) :
    (countDse f s).wru = s.wru := rfl

@[simp] theorem countDse_dte (s : State) (f : DseCounters → DseCounters) :
    (countDse f s).dte = s.dte := rfl

@[simp] theorem countDse_rrg (s : State) (f : DseCounters → DseCounters) :
    (countDse f s).rrg = s.rrg := rfl

@[simp] theorem countDse_rpe (s : State) (f : DseCounters → DseCounters) :
    (countDse f s).rpe = s.rpe := rfl

@[simp] theorem countDse_egm (s : State) (f : DseCounters → DseCounters) :
    (countDse f s).egm = s.egm := rfl

@[simp] theorem countDse_mgu (s : State) (f : DseCounters → DseCounters) :
    (countDse f s).mgu = s.mgu := rfl

@[simp] theorem countDse_resetHeld (s : State) (f : DseCounters → DseCounters) :
    (countDse f s).resetHeld = s.resetHeld := rfl

@[simp] theorem countDse_serial (s : State) (f : DseCounters → DseCounters) :
    (countDse f s).serial = s.serial := rfl

@[simp] theorem countDse_pending (s : State) (f : DseCounters → DseCounters) :
    (countDse f s).pending = s.pending := rfl


/-! ### countDtr -/

@[simp] theorem countDtr_rcu (s : State) (f : DtrCounters → DtrCounters) :
    (countDtr f s).rcu = s.rcu := rfl

@[simp] theorem countDtr_dse (s : State) (f : DtrCounters → DtrCounters) :
    (countDtr f s).dse = s.dse := rfl

@[simp] theorem countDtr_fcl (s : State) (f : DtrCounters → DtrCounters) :
    (countDtr f s).fcl = s.fcl := rfl

@[simp] theorem countDtr_anu (s : State) (f : DtrCounters → DtrCounters) :
    (countDtr f s).anu = s.anu := rfl

@[simp] theorem countDtr_dtr (s : State) (f : DtrCounters → DtrCounters) :
    (countDtr f s).dtr = { s.dtr with ctr := f s.dtr.ctr } := rfl

@[simp] theorem countDtr_wru (s : State) (f : DtrCounters → DtrCounters) :
    (countDtr f s).wru = s.wru := rfl

@[simp] theorem countDtr_dte (s : State) (f : DtrCounters → DtrCounters) :
    (countDtr f s).dte = s.dte := rfl

@[simp] theorem countDtr_rrg (s : State) (f : DtrCounters → DtrCounters) :
    (countDtr f s).rrg = s.rrg := rfl

@[simp] theorem countDtr_rpe (s : State) (f : DtrCounters → DtrCounters) :
    (countDtr f s).rpe = s.rpe := rfl

@[simp] theorem countDtr_egm (s : State) (f : DtrCounters → DtrCounters) :
    (countDtr f s).egm = s.egm := rfl

@[simp] theorem countDtr_mgu (s : State) (f : DtrCounters → DtrCounters) :
    (countDtr f s).mgu = s.mgu := rfl

@[simp] theorem countDtr_resetHeld (s : State) (f : DtrCounters → DtrCounters) :
    (countDtr f s).resetHeld = s.resetHeld := rfl

@[simp] theorem countDtr_serial (s : State) (f : DtrCounters → DtrCounters) :
    (countDtr f s).serial = s.serial := rfl

@[simp] theorem countDtr_pending (s : State) (f : DtrCounters → DtrCounters) :
    (countDtr f s).pending = s.pending := rfl


/-! ### countMgu -/

@[simp] theorem countMgu_rcu (s : State) (f : MguCounters → MguCounters) :
    (countMgu f s).rcu = s.rcu := rfl

@[simp] theorem countMgu_dse (s : State) (f : MguCounters → MguCounters) :
    (countMgu f s).dse = s.dse := rfl

@[simp] theorem countMgu_fcl (s : State) (f : MguCounters → MguCounters) :
    (countMgu f s).fcl = s.fcl := rfl

@[simp] theorem countMgu_anu (s : State) (f : MguCounters → MguCounters) :
    (countMgu f s).anu = s.anu := rfl

@[simp] theorem countMgu_dtr (s : State) (f : MguCounters → MguCounters) :
    (countMgu f s).dtr = s.dtr := rfl

@[simp] theorem countMgu_wru (s : State) (f : MguCounters → MguCounters) :
    (countMgu f s).wru = s.wru := rfl

@[simp] theorem countMgu_dte (s : State) (f : MguCounters → MguCounters) :
    (countMgu f s).dte = s.dte := rfl

@[simp] theorem countMgu_rrg (s : State) (f : MguCounters → MguCounters) :
    (countMgu f s).rrg = s.rrg := rfl

@[simp] theorem countMgu_rpe (s : State) (f : MguCounters → MguCounters) :
    (countMgu f s).rpe = s.rpe := rfl

@[simp] theorem countMgu_egm (s : State) (f : MguCounters → MguCounters) :
    (countMgu f s).egm = s.egm := rfl

@[simp] theorem countMgu_mgu (s : State) (f : MguCounters → MguCounters) :
    (countMgu f s).mgu = { s.mgu with ctr := f s.mgu.ctr } := rfl

@[simp] theorem countMgu_resetHeld (s : State) (f : MguCounters → MguCounters) :
    (countMgu f s).resetHeld = s.resetHeld := rfl

@[simp] theorem countMgu_serial (s : State) (f : MguCounters → MguCounters) :
    (countMgu f s).serial = s.serial := rfl

@[simp] theorem countMgu_pending (s : State) (f : MguCounters → MguCounters) :
    (countMgu f s).pending = s.pending := rfl


/-! ### countHit -/

@[simp] theorem countHit_rcu (s : State) (i : Nat) :
    (countHit i s).rcu = s.rcu := rfl

@[simp] theorem countHit_dse (s : State) (i : Nat) :
    (countHit i s).dse = s.dse := rfl

@[simp] theorem countHit_fcl (s : State) (i : Nat) :
    (countHit i s).fcl = { s.fcl with
      filters := s.fcl.filters.modify i fun f => { f with hits := bump f.hits } } := rfl

@[simp] theorem countHit_anu (s : State) (i : Nat) :
    (countHit i s).anu = s.anu := rfl

@[simp] theorem countHit_dtr (s : State) (i : Nat) :
    (countHit i s).dtr = s.dtr := rfl

@[simp] theorem countHit_wru (s : State) (i : Nat) :
    (countHit i s).wru = s.wru := rfl

@[simp] theorem countHit_dte (s : State) (i : Nat) :
    (countHit i s).dte = s.dte := rfl

@[simp] theorem countHit_rrg (s : State) (i : Nat) :
    (countHit i s).rrg = s.rrg := rfl

@[simp] theorem countHit_rpe (s : State) (i : Nat) :
    (countHit i s).rpe = s.rpe := rfl

@[simp] theorem countHit_egm (s : State) (i : Nat) :
    (countHit i s).egm = s.egm := rfl

@[simp] theorem countHit_mgu (s : State) (i : Nat) :
    (countHit i s).mgu = s.mgu := rfl

@[simp] theorem countHit_resetHeld (s : State) (i : Nat) :
    (countHit i s).resetHeld = s.resetHeld := rfl

@[simp] theorem countHit_serial (s : State) (i : Nat) :
    (countHit i s).serial = s.serial := rfl

@[simp] theorem countHit_pending (s : State) (i : Nat) :
    (countHit i s).pending = s.pending := rfl


/-! ### countProfile -/

@[simp] theorem countProfile_rcu (s : State) (q : BitVec 3) (f : Profile → Profile) :
    (countProfile q f s).rcu = s.rcu := rfl

@[simp] theorem countProfile_dse (s : State) (q : BitVec 3) (f : Profile → Profile) :
    (countProfile q f s).dse = s.dse := rfl

@[simp] theorem countProfile_fcl (s : State) (q : BitVec 3) (f : Profile → Profile) :
    (countProfile q f s).fcl = s.fcl := rfl

@[simp] theorem countProfile_anu (s : State) (q : BitVec 3) (f : Profile → Profile) :
    (countProfile q f s).anu = s.anu := rfl

@[simp] theorem countProfile_dtr (s : State) (q : BitVec 3) (f : Profile → Profile) :
    (countProfile q f s).dtr = s.dtr := rfl

@[simp] theorem countProfile_wru (s : State) (q : BitVec 3) (f : Profile → Profile) :
    (countProfile q f s).wru = s.wru := rfl

@[simp] theorem countProfile_dte (s : State) (q : BitVec 3) (f : Profile → Profile) :
    (countProfile q f s).dte = { s.dte with profiles := s.dte.profiles.modify q.toNat f } := rfl

@[simp] theorem countProfile_rrg (s : State) (q : BitVec 3) (f : Profile → Profile) :
    (countProfile q f s).rrg = s.rrg := rfl

@[simp] theorem countProfile_rpe (s : State) (q : BitVec 3) (f : Profile → Profile) :
    (countProfile q f s).rpe = s.rpe := rfl

@[simp] theorem countProfile_egm (s : State) (q : BitVec 3) (f : Profile → Profile) :
    (countProfile q f s).egm = s.egm := rfl

@[simp] theorem countProfile_mgu (s : State) (q : BitVec 3) (f : Profile → Profile) :
    (countProfile q f s).mgu = s.mgu := rfl

@[simp] theorem countProfile_resetHeld (s : State) (q : BitVec 3) (f : Profile → Profile) :
    (countProfile q f s).resetHeld = s.resetHeld := rfl

@[simp] theorem countProfile_serial (s : State) (q : BitVec 3) (f : Profile → Profile) :
    (countProfile q f s).serial = s.serial := rfl

@[simp] theorem countProfile_pending (s : State) (q : BitVec 3) (f : Profile → Profile) :
    (countProfile q f s).pending = s.pending := rfl


/-! ### setServer -/

@[simp] theorem setServer_rcu (s : State) (i : Nat) (e : Option Server) :
    (setServer i e s).rcu = s.rcu := rfl

@[simp] theorem setServer_dse (s : State) (i : Nat) (e : Option Server) :
    (setServer i e s).dse = s.dse := rfl

@[simp] theorem setServer_fcl (s : State) (i : Nat) (e : Option Server) :
    (setServer i e s).fcl = s.fcl := rfl

@[simp] theorem setServer_anu (s : State) (i : Nat) (e : Option Server) :
    (setServer i e s).anu = s.anu := rfl

@[simp] theorem setServer_dtr (s : State) (i : Nat) (e : Option Server) :
    (setServer i e s).dtr = { s.dtr with servers := s.dtr.servers.set i e } := rfl

@[simp] theorem setServer_wru (s : State) (i : Nat) (e : Option Server) :
    (setServer i e s).wru = s.wru := rfl

@[simp] theorem setServer_dte (s : State) (i : Nat) (e : Option Server) :
    (setServer i e s).dte = s.dte := rfl

@[simp] theorem setServer_rrg (s : State) (i : Nat) (e : Option Server) :
    (setServer i e s).rrg = s.rrg := rfl

@[simp] theorem setServer_rpe (s : State) (i : Nat) (e : Option Server) :
    (setServer i e s).rpe = s.rpe := rfl

@[simp] theorem setServer_egm (s : State) (i : Nat) (e : Option Server) :
    (setServer i e s).egm = s.egm := rfl

@[simp] theorem setServer_mgu (s : State) (i : Nat) (e : Option Server) :
    (setServer i e s).mgu = s.mgu := rfl

@[simp] theorem setServer_resetHeld (s : State) (i : Nat) (e : Option Server) :
    (setServer i e s).resetHeld = s.resetHeld := rfl

@[simp] theorem setServer_serial (s : State) (i : Nat) (e : Option Server) :
    (setServer i e s).serial = s.serial := rfl

@[simp] theorem setServer_pending (s : State) (i : Nat) (e : Option Server) :
    (setServer i e s).pending = s.pending := rfl


/-! ### setExchange -/

@[simp] theorem setExchange_rcu (s : State) (i : Nat) (e : Option Exchange) :
    (setExchange i e s).rcu = s.rcu := rfl

@[simp] theorem setExchange_dse (s : State) (i : Nat) (e : Option Exchange) :
    (setExchange i e s).dse = s.dse := rfl

@[simp] theorem setExchange_fcl (s : State) (i : Nat) (e : Option Exchange) :
    (setExchange i e s).fcl = s.fcl := rfl

@[simp] theorem setExchange_anu (s : State) (i : Nat) (e : Option Exchange) :
    (setExchange i e s).anu = s.anu := rfl

@[simp] theorem setExchange_dtr (s : State) (i : Nat) (e : Option Exchange) :
    (setExchange i e s).dtr = s.dtr := rfl

@[simp] theorem setExchange_wru (s : State) (i : Nat) (e : Option Exchange) :
    (setExchange i e s).wru = s.wru := rfl

@[simp] theorem setExchange_dte (s : State) (i : Nat) (e : Option Exchange) :
    (setExchange i e s).dte = { s.dte with exchanges := s.dte.exchanges.set i e } := rfl

@[simp] theorem setExchange_rrg (s : State) (i : Nat) (e : Option Exchange) :
    (setExchange i e s).rrg = s.rrg := rfl

@[simp] theorem setExchange_rpe (s : State) (i : Nat) (e : Option Exchange) :
    (setExchange i e s).rpe = s.rpe := rfl

@[simp] theorem setExchange_egm (s : State) (i : Nat) (e : Option Exchange) :
    (setExchange i e s).egm = s.egm := rfl

@[simp] theorem setExchange_mgu (s : State) (i : Nat) (e : Option Exchange) :
    (setExchange i e s).mgu = s.mgu := rfl

@[simp] theorem setExchange_resetHeld (s : State) (i : Nat) (e : Option Exchange) :
    (setExchange i e s).resetHeld = s.resetHeld := rfl

@[simp] theorem setExchange_serial (s : State) (i : Nat) (e : Option Exchange) :
    (setExchange i e s).serial = s.serial := rfl

@[simp] theorem setExchange_pending (s : State) (i : Nat) (e : Option Exchange) :
    (setExchange i e s).pending = s.pending := rfl


/-! ### changeSlot -/

@[simp] theorem changeSlot_rcu (s : State) (n : Nat) (f : Slot → Slot) :
    (changeSlot n f s).rcu = s.rcu := rfl

@[simp] theorem changeSlot_dse (s : State) (n : Nat) (f : Slot → Slot) :
    (changeSlot n f s).dse = s.dse := rfl

@[simp] theorem changeSlot_fcl (s : State) (n : Nat) (f : Slot → Slot) :
    (changeSlot n f s).fcl = s.fcl := rfl

@[simp] theorem changeSlot_anu (s : State) (n : Nat) (f : Slot → Slot) :
    (changeSlot n f s).anu = { s.anu with slots := s.anu.slots.modify n f } := rfl

@[simp] theorem changeSlot_dtr (s : State) (n : Nat) (f : Slot → Slot) :
    (changeSlot n f s).dtr = s.dtr := rfl

@[simp] theorem changeSlot_wru (s : State) (n : Nat) (f : Slot → Slot) :
    (changeSlot n f s).wru = s.wru := rfl

@[simp] theorem changeSlot_dte (s : State) (n : Nat) (f : Slot → Slot) :
    (changeSlot n f s).dte = s.dte := rfl

@[simp] theorem changeSlot_rrg (s : State) (n : Nat) (f : Slot → Slot) :
    (changeSlot n f s).rrg = s.rrg := rfl

@[simp] theorem changeSlot_rpe (s : State) (n : Nat) (f : Slot → Slot) :
    (changeSlot n f s).rpe = s.rpe := rfl

@[simp] theorem changeSlot_egm (s : State) (n : Nat) (f : Slot → Slot) :
    (changeSlot n f s).egm = s.egm := rfl

@[simp] theorem changeSlot_mgu (s : State) (n : Nat) (f : Slot → Slot) :
    (changeSlot n f s).mgu = s.mgu := rfl

@[simp] theorem changeSlot_resetHeld (s : State) (n : Nat) (f : Slot → Slot) :
    (changeSlot n f s).resetHeld = s.resetHeld := rfl

@[simp] theorem changeSlot_serial (s : State) (n : Nat) (f : Slot → Slot) :
    (changeSlot n f s).serial = s.serial := rfl

@[simp] theorem changeSlot_pending (s : State) (n : Nat) (f : Slot → Slot) :
    (changeSlot n f s).pending = s.pending := rfl


/-! ### changeRcu -/

@[simp] theorem changeRcu_rcu (s : State) (f : Rcu → Rcu) :
    (changeRcu f s).rcu = f s.rcu := rfl

@[simp] theorem changeRcu_dse (s : State) (f : Rcu → Rcu) :
    (changeRcu f s).dse = s.dse := rfl

@[simp] theorem changeRcu_fcl (s : State) (f : Rcu → Rcu) :
    (changeRcu f s).fcl = s.fcl := rfl

@[simp] theorem changeRcu_anu (s : State) (f : Rcu → Rcu) :
    (changeRcu f s).anu = s.anu := rfl

@[simp] theorem changeRcu_dtr (s : State) (f : Rcu → Rcu) :
    (changeRcu f s).dtr = s.dtr := rfl

@[simp] theorem changeRcu_wru (s : State) (f : Rcu → Rcu) :
    (changeRcu f s).wru = s.wru := rfl

@[simp] theorem changeRcu_dte (s : State) (f : Rcu → Rcu) :
    (changeRcu f s).dte = s.dte := rfl

@[simp] theorem changeRcu_rrg (s : State) (f : Rcu → Rcu) :
    (changeRcu f s).rrg = s.rrg := rfl

@[simp] theorem changeRcu_rpe (s : State) (f : Rcu → Rcu) :
    (changeRcu f s).rpe = s.rpe := rfl

@[simp] theorem changeRcu_egm (s : State) (f : Rcu → Rcu) :
    (changeRcu f s).egm = s.egm := rfl

@[simp] theorem changeRcu_mgu (s : State) (f : Rcu → Rcu) :
    (changeRcu f s).mgu = s.mgu := rfl

@[simp] theorem changeRcu_resetHeld (s : State) (f : Rcu → Rcu) :
    (changeRcu f s).resetHeld = s.resetHeld := rfl

@[simp] theorem changeRcu_serial (s : State) (f : Rcu → Rcu) :
    (changeRcu f s).serial = s.serial := rfl

@[simp] theorem changeRcu_pending (s : State) (f : Rcu → Rcu) :
    (changeRcu f s).pending = s.pending := rfl


/-! ### changeServo -/

@[simp] theorem changeServo_rcu (s : State) (f : ServoSettings → ServoSettings) :
    (changeServo f s).rcu = s.rcu := rfl

@[simp] theorem changeServo_dse (s : State) (f : ServoSettings → ServoSettings) :
    (changeServo f s).dse = { s.dse with settings := f s.dse.settings } := rfl

@[simp] theorem changeServo_fcl (s : State) (f : ServoSettings → ServoSettings) :
    (changeServo f s).fcl = s.fcl := rfl

@[simp] theorem changeServo_anu (s : State) (f : ServoSettings → ServoSettings) :
    (changeServo f s).anu = s.anu := rfl

@[simp] theorem changeServo_dtr (s : State) (f : ServoSettings → ServoSettings) :
    (changeServo f s).dtr = s.dtr := rfl

@[simp] theorem changeServo_wru (s : State) (f : ServoSettings → ServoSettings) :
    (changeServo f s).wru = s.wru := rfl

@[simp] theorem changeServo_dte (s : State) (f : ServoSettings → ServoSettings) :
    (changeServo f s).dte = s.dte := rfl

@[simp] theorem changeServo_rrg (s : State) (f : ServoSettings → ServoSettings) :
    (changeServo f s).rrg = s.rrg := rfl

@[simp] theorem changeServo_rpe (s : State) (f : ServoSettings → ServoSettings) :
    (changeServo f s).rpe = s.rpe := rfl

@[simp] theorem changeServo_egm (s : State) (f : ServoSettings → ServoSettings) :
    (changeServo f s).egm = s.egm := rfl

@[simp] theorem changeServo_mgu (s : State) (f : ServoSettings → ServoSettings) :
    (changeServo f s).mgu = s.mgu := rfl

@[simp] theorem changeServo_resetHeld (s : State) (f : ServoSettings → ServoSettings) :
    (changeServo f s).resetHeld = s.resetHeld := rfl

@[simp] theorem changeServo_serial (s : State) (f : ServoSettings → ServoSettings) :
    (changeServo f s).serial = s.serial := rfl

@[simp] theorem changeServo_pending (s : State) (f : ServoSettings → ServoSettings) :
    (changeServo f s).pending = s.pending := rfl


/-! ### changeDrift -/

@[simp] theorem changeDrift_rcu (s : State) (f : DriftSettings → DriftSettings) :
    (changeDrift f s).rcu = s.rcu := rfl

@[simp] theorem changeDrift_dse (s : State) (f : DriftSettings → DriftSettings) :
    (changeDrift f s).dse = s.dse := rfl

@[simp] theorem changeDrift_fcl (s : State) (f : DriftSettings → DriftSettings) :
    (changeDrift f s).fcl = s.fcl := rfl

@[simp] theorem changeDrift_anu (s : State) (f : DriftSettings → DriftSettings) :
    (changeDrift f s).anu = s.anu := rfl

@[simp] theorem changeDrift_dtr (s : State) (f : DriftSettings → DriftSettings) :
    (changeDrift f s).dtr = { s.dtr with settings := f s.dtr.settings } := rfl

@[simp] theorem changeDrift_wru (s : State) (f : DriftSettings → DriftSettings) :
    (changeDrift f s).wru = s.wru := rfl

@[simp] theorem changeDrift_dte (s : State) (f : DriftSettings → DriftSettings) :
    (changeDrift f s).dte = s.dte := rfl

@[simp] theorem changeDrift_rrg (s : State) (f : DriftSettings → DriftSettings) :
    (changeDrift f s).rrg = s.rrg := rfl

@[simp] theorem changeDrift_rpe (s : State) (f : DriftSettings → DriftSettings) :
    (changeDrift f s).rpe = s.rpe := rfl

@[simp] theorem changeDrift_egm (s : State) (f : DriftSettings → DriftSettings) :
    (changeDrift f s).egm = s.egm := rfl

@[simp] theorem changeDrift_mgu (s : State) (f : DriftSettings → DriftSettings) :
    (changeDrift f s).mgu = s.mgu := rfl

@[simp] theorem changeDrift_resetHeld (s : State) (f : DriftSettings → DriftSettings) :
    (changeDrift f s).resetHeld = s.resetHeld := rfl

@[simp] theorem changeDrift_serial (s : State) (f : DriftSettings → DriftSettings) :
    (changeDrift f s).serial = s.serial := rfl

@[simp] theorem changeDrift_pending (s : State) (f : DriftSettings → DriftSettings) :
    (changeDrift f s).pending = s.pending := rfl


/-! ### changeWru -/

@[simp] theorem changeWru_rcu (s : State) (f : Wru → Wru) :
    (changeWru f s).rcu = s.rcu := rfl

@[simp] theorem changeWru_dse (s : State) (f : Wru → Wru) :
    (changeWru f s).dse = s.dse := rfl

@[simp] theorem changeWru_fcl (s : State) (f : Wru → Wru) :
    (changeWru f s).fcl = s.fcl := rfl

@[simp] theorem changeWru_anu (s : State) (f : Wru → Wru) :
    (changeWru f s).anu = s.anu := rfl

@[simp] theorem changeWru_dtr (s : State) (f : Wru → Wru) :
    (changeWru f s).dtr = s.dtr := rfl

@[simp] theorem changeWru_wru (s : State) (f : Wru → Wru) :
    (changeWru f s).wru = f s.wru := rfl

@[simp] theorem changeWru_dte (s : State) (f : Wru → Wru) :
    (changeWru f s).dte = s.dte := rfl

@[simp] theorem changeWru_rrg (s : State) (f : Wru → Wru) :
    (changeWru f s).rrg = s.rrg := rfl

@[simp] theorem changeWru_rpe (s : State) (f : Wru → Wru) :
    (changeWru f s).rpe = s.rpe := rfl

@[simp] theorem changeWru_egm (s : State) (f : Wru → Wru) :
    (changeWru f s).egm = s.egm := rfl

@[simp] theorem changeWru_mgu (s : State) (f : Wru → Wru) :
    (changeWru f s).mgu = s.mgu := rfl

@[simp] theorem changeWru_resetHeld (s : State) (f : Wru → Wru) :
    (changeWru f s).resetHeld = s.resetHeld := rfl

@[simp] theorem changeWru_serial (s : State) (f : Wru → Wru) :
    (changeWru f s).serial = s.serial := rfl

@[simp] theorem changeWru_pending (s : State) (f : Wru → Wru) :
    (changeWru f s).pending = s.pending := rfl


/-! ### changeProfile -/

@[simp] theorem changeProfile_rcu (s : State) (p : Nat) (f : Profile → Profile) :
    (changeProfile p f s).rcu = s.rcu := rfl

@[simp] theorem changeProfile_dse (s : State) (p : Nat) (f : Profile → Profile) :
    (changeProfile p f s).dse = s.dse := rfl

@[simp] theorem changeProfile_fcl (s : State) (p : Nat) (f : Profile → Profile) :
    (changeProfile p f s).fcl = s.fcl := rfl

@[simp] theorem changeProfile_anu (s : State) (p : Nat) (f : Profile → Profile) :
    (changeProfile p f s).anu = s.anu := rfl

@[simp] theorem changeProfile_dtr (s : State) (p : Nat) (f : Profile → Profile) :
    (changeProfile p f s).dtr = s.dtr := rfl

@[simp] theorem changeProfile_wru (s : State) (p : Nat) (f : Profile → Profile) :
    (changeProfile p f s).wru = s.wru := rfl

@[simp] theorem changeProfile_dte (s : State) (p : Nat) (f : Profile → Profile) :
    (changeProfile p f s).dte = { s.dte with profiles := s.dte.profiles.modify p f } := rfl

@[simp] theorem changeProfile_rrg (s : State) (p : Nat) (f : Profile → Profile) :
    (changeProfile p f s).rrg = s.rrg := rfl

@[simp] theorem changeProfile_rpe (s : State) (p : Nat) (f : Profile → Profile) :
    (changeProfile p f s).rpe = s.rpe := rfl

@[simp] theorem changeProfile_egm (s : State) (p : Nat) (f : Profile → Profile) :
    (changeProfile p f s).egm = s.egm := rfl

@[simp] theorem changeProfile_mgu (s : State) (p : Nat) (f : Profile → Profile) :
    (changeProfile p f s).mgu = s.mgu := rfl

@[simp] theorem changeProfile_resetHeld (s : State) (p : Nat) (f : Profile → Profile) :
    (changeProfile p f s).resetHeld = s.resetHeld := rfl

@[simp] theorem changeProfile_serial (s : State) (p : Nat) (f : Profile → Profile) :
    (changeProfile p f s).serial = s.serial := rfl

@[simp] theorem changeProfile_pending (s : State) (p : Nat) (f : Profile → Profile) :
    (changeProfile p f s).pending = s.pending := rfl


/-! ### changeRpe -/

@[simp] theorem changeRpe_rcu (s : State) (f : Rpe → Rpe) :
    (changeRpe f s).rcu = s.rcu := rfl

@[simp] theorem changeRpe_dse (s : State) (f : Rpe → Rpe) :
    (changeRpe f s).dse = s.dse := rfl

@[simp] theorem changeRpe_fcl (s : State) (f : Rpe → Rpe) :
    (changeRpe f s).fcl = s.fcl := rfl

@[simp] theorem changeRpe_anu (s : State) (f : Rpe → Rpe) :
    (changeRpe f s).anu = s.anu := rfl

@[simp] theorem changeRpe_dtr (s : State) (f : Rpe → Rpe) :
    (changeRpe f s).dtr = s.dtr := rfl

@[simp] theorem changeRpe_wru (s : State) (f : Rpe → Rpe) :
    (changeRpe f s).wru = s.wru := rfl

@[simp] theorem changeRpe_dte (s : State) (f : Rpe → Rpe) :
    (changeRpe f s).dte = s.dte := rfl

@[simp] theorem changeRpe_rrg (s : State) (f : Rpe → Rpe) :
    (changeRpe f s).rrg = s.rrg := rfl

@[simp] theorem changeRpe_rpe (s : State) (f : Rpe → Rpe) :
    (changeRpe f s).rpe = f s.rpe := rfl

@[simp] theorem changeRpe_egm (s : State) (f : Rpe → Rpe) :
    (changeRpe f s).egm = s.egm := rfl

@[simp] theorem changeRpe_mgu (s : State) (f : Rpe → Rpe) :
    (changeRpe f s).mgu = s.mgu := rfl

@[simp] theorem changeRpe_resetHeld (s : State) (f : Rpe → Rpe) :
    (changeRpe f s).resetHeld = s.resetHeld := rfl

@[simp] theorem changeRpe_serial (s : State) (f : Rpe → Rpe) :
    (changeRpe f s).serial = s.serial := rfl

@[simp] theorem changeRpe_pending (s : State) (f : Rpe → Rpe) :
    (changeRpe f s).pending = s.pending := rfl


/-! ### changeStation -/

@[simp] theorem changeStation_rcu (s : State) (f : Station → Station) :
    (changeStation f s).rcu = s.rcu := rfl

@[simp] theorem changeStation_dse (s : State) (f : Station → Station) :
    (changeStation f s).dse = s.dse := rfl

@[simp] theorem changeStation_fcl (s : State) (f : Station → Station) :
    (changeStation f s).fcl = s.fcl := rfl

@[simp] theorem changeStation_anu (s : State) (f : Station → Station) :
    (changeStation f s).anu = s.anu := rfl

@[simp] theorem changeStation_dtr (s : State) (f : Station → Station) :
    (changeStation f s).dtr = s.dtr := rfl

@[simp] theorem changeStation_wru (s : State) (f : Station → Station) :
    (changeStation f s).wru = s.wru := rfl

@[simp] theorem changeStation_dte (s : State) (f : Station → Station) :
    (changeStation f s).dte = s.dte := rfl

@[simp] theorem changeStation_rrg (s : State) (f : Station → Station) :
    (changeStation f s).rrg = s.rrg := rfl

@[simp] theorem changeStation_rpe (s : State) (f : Station → Station) :
    (changeStation f s).rpe = s.rpe := rfl

@[simp] theorem changeStation_egm (s : State) (f : Station → Station) :
    (changeStation f s).egm = s.egm := rfl

@[simp] theorem changeStation_mgu (s : State) (f : Station → Station) :
    (changeStation f s).mgu = { s.mgu with station := f s.mgu.station } := rfl

@[simp] theorem changeStation_resetHeld (s : State) (f : Station → Station) :
    (changeStation f s).resetHeld = s.resetHeld := rfl

@[simp] theorem changeStation_serial (s : State) (f : Station → Station) :
    (changeStation f s).serial = s.serial := rfl

@[simp] theorem changeStation_pending (s : State) (f : Station → Station) :
    (changeStation f s).pending = s.pending := rfl


end Sys2Proof.Machine
end

