-- ==== Sys2Proof/Laws/Frame.lean ====
section
/-! SUPPORT. Frames: which parts of the state each operation leaves as they were: the shared operations of the blocks (Ops, FramePath). -/

namespace Sys2Proof.Machine

@[simp] theorem pushEntry_frame (s : State) (p : Port) (src : Source) :
    (pushEntry p src s).rcu = s.rcu ∧ (pushEntry p src s).dse = s.dse ∧
      (pushEntry p src s).fcl = s.fcl ∧ (pushEntry p src s).anu = s.anu ∧
      (pushEntry p src s).dtr = s.dtr ∧ (pushEntry p src s).wru = s.wru ∧
      (pushEntry p src s).dte = s.dte ∧ (pushEntry p src s).rrg = s.rrg ∧
      (pushEntry p src s).rpe = s.rpe ∧ (pushEntry p src s).mgu = s.mgu ∧
      (pushEntry p src s).resetHeld = s.resetHeld ∧ (pushEntry p src s).serial = s.serial ∧
      (pushEntry p src s).pending = s.pending := by
  exact ⟨rfl, rfl, rfl, rfl, rfl, rfl, rfl, rfl, rfl, rfl, rfl, rfl, rfl⟩

@[simp] theorem countDrop_frame (s : State) (p : Port) :
    (countDrop p s).rcu = s.rcu ∧ (countDrop p s).dse = s.dse ∧ (countDrop p s).fcl = s.fcl ∧
      (countDrop p s).anu = s.anu ∧ (countDrop p s).dtr = s.dtr ∧ (countDrop p s).wru = s.wru ∧
      (countDrop p s).dte = s.dte ∧ (countDrop p s).rrg = s.rrg ∧ (countDrop p s).rpe = s.rpe ∧
      (countDrop p s).mgu = s.mgu ∧ (countDrop p s).resetHeld = s.resetHeld ∧
      (countDrop p s).serial = s.serial ∧ (countDrop p s).pending = s.pending := by
  exact ⟨rfl, rfl, rfl, rfl, rfl, rfl, rfl, rfl, rfl, rfl, rfl, rfl, rfl⟩

@[simp] theorem decidePressure_frame (s : State) :
    (decidePressure s).rcu = s.rcu ∧ (decidePressure s).dse = s.dse ∧
      (decidePressure s).fcl = s.fcl ∧ (decidePressure s).anu = s.anu ∧
      (decidePressure s).dtr = s.dtr ∧ (decidePressure s).wru = s.wru ∧
      (decidePressure s).dte = s.dte ∧ (decidePressure s).rpe = s.rpe ∧
      (decidePressure s).egm = s.egm ∧ (decidePressure s).mgu = s.mgu ∧
      (decidePressure s).resetHeld = s.resetHeld ∧ (decidePressure s).serial = s.serial ∧
      (decidePressure s).pending = s.pending := by
  exact ⟨rfl, rfl, rfl, rfl, rfl, rfl, rfl, rfl, rfl, rfl, rfl, rfl, rfl⟩

@[simp] theorem recomputeRate_frame (s : State) :
    (recomputeRate s).dse = s.dse ∧ (recomputeRate s).fcl = s.fcl ∧
      (recomputeRate s).anu = s.anu ∧ (recomputeRate s).dtr = s.dtr ∧
      (recomputeRate s).wru = s.wru ∧ (recomputeRate s).dte = s.dte ∧
      (recomputeRate s).rrg = s.rrg ∧ (recomputeRate s).rpe = s.rpe ∧
      (recomputeRate s).egm = s.egm ∧ (recomputeRate s).mgu = s.mgu ∧
      (recomputeRate s).resetHeld = s.resetHeld ∧ (recomputeRate s).serial = s.serial ∧
      (recomputeRate s).pending = s.pending := by
  exact ⟨rfl, rfl, rfl, rfl, rfl, rfl, rfl, rfl, rfl, rfl, rfl, rfl, rfl⟩

@[simp] theorem invalidateProbe_frame (s : State) :
    (invalidateProbe s).rcu = s.rcu ∧ (invalidateProbe s).fcl = s.fcl ∧
      (invalidateProbe s).anu = s.anu ∧ (invalidateProbe s).dtr = s.dtr ∧
      (invalidateProbe s).wru = s.wru ∧ (invalidateProbe s).dte = s.dte ∧
      (invalidateProbe s).rrg = s.rrg ∧ (invalidateProbe s).rpe = s.rpe ∧
      (invalidateProbe s).egm = s.egm ∧ (invalidateProbe s).mgu = s.mgu ∧
      (invalidateProbe s).resetHeld = s.resetHeld ∧ (invalidateProbe s).serial = s.serial ∧
      (invalidateProbe s).pending = s.pending := by
  exact ⟨rfl, rfl, rfl, rfl, rfl, rfl, rfl, rfl, rfl, rfl, rfl, rfl, rfl⟩

@[simp] theorem callAlertTest_frame (s : State) :
    (callAlertTest s).rcu = s.rcu ∧ (callAlertTest s).dse = s.dse ∧
      (callAlertTest s).fcl = s.fcl ∧ (callAlertTest s).anu = s.anu ∧
      (callAlertTest s).dtr = s.dtr ∧ (callAlertTest s).dte = s.dte ∧
      (callAlertTest s).rrg = s.rrg ∧ (callAlertTest s).rpe = s.rpe ∧
      (callAlertTest s).egm = s.egm ∧ (callAlertTest s).mgu = s.mgu ∧
      (callAlertTest s).resetHeld = s.resetHeld ∧ (callAlertTest s).serial = s.serial ∧
      (callAlertTest s).pending = s.pending := by
  exact ⟨rfl, rfl, rfl, rfl, rfl, rfl, rfl, rfl, rfl, rfl, rfl, rfl, rfl⟩

@[simp] theorem answerDropped_frame (s : State) (n : Nat) :
    (answerDropped n s).rcu = s.rcu ∧ (answerDropped n s).dse = s.dse ∧
      (answerDropped n s).fcl = s.fcl ∧ (answerDropped n s).dtr = s.dtr ∧
      (answerDropped n s).wru = s.wru ∧ (answerDropped n s).dte = s.dte ∧
      (answerDropped n s).rrg = s.rrg ∧ (answerDropped n s).rpe = s.rpe ∧
      (answerDropped n s).egm = s.egm ∧ (answerDropped n s).mgu = s.mgu ∧
      (answerDropped n s).resetHeld = s.resetHeld ∧ (answerDropped n s).serial = s.serial ∧
      (answerDropped n s).pending = s.pending := by
  exact ⟨rfl, rfl, rfl, rfl, rfl, rfl, rfl, rfl, rfl, rfl, rfl, rfl, rfl⟩

@[simp] theorem answerEnded_frame (s : State) (n : Nat) :
    (answerEnded n s).rcu = s.rcu ∧ (answerEnded n s).dse = s.dse ∧
      (answerEnded n s).fcl = s.fcl ∧ (answerEnded n s).dtr = s.dtr ∧
      (answerEnded n s).wru = s.wru ∧ (answerEnded n s).dte = s.dte ∧
      (answerEnded n s).rrg = s.rrg ∧ (answerEnded n s).rpe = s.rpe ∧
      (answerEnded n s).egm = s.egm ∧ (answerEnded n s).mgu = s.mgu ∧
      (answerEnded n s).resetHeld = s.resetHeld ∧ (answerEnded n s).serial = s.serial ∧
      (answerEnded n s).pending = s.pending := by
  exact ⟨rfl, rfl, rfl, rfl, rfl, rfl, rfl, rfl, rfl, rfl, rfl, rfl, rfl⟩

@[simp] theorem flushRing_frame (s : State) :
    (flushRing s).rcu = s.rcu ∧ (flushRing s).dse = s.dse ∧ (flushRing s).fcl = s.fcl ∧
      (flushRing s).anu = s.anu ∧ (flushRing s).dtr = s.dtr ∧ (flushRing s).wru = s.wru ∧
      (flushRing s).dte = s.dte ∧ (flushRing s).rpe = s.rpe ∧ (flushRing s).egm = s.egm ∧
      (flushRing s).mgu = s.mgu ∧ (flushRing s).resetHeld = s.resetHeld ∧
      (flushRing s).serial = s.serial ∧ (flushRing s).pending = s.pending := by
  unfold flushRing
  simp

@[simp] theorem buildReport_frame (s : State) :
    (buildReport s).rcu = s.rcu ∧ (buildReport s).dse = s.dse ∧ (buildReport s).fcl = s.fcl ∧
      (buildReport s).anu = s.anu ∧ (buildReport s).dtr = s.dtr ∧ (buildReport s).wru = s.wru ∧
      (buildReport s).dte = s.dte ∧ (buildReport s).rrg = s.rrg ∧ (buildReport s).mgu = s.mgu ∧
      (buildReport s).resetHeld = s.resetHeld ∧ (buildReport s).serial = s.serial ∧
      (buildReport s).pending = s.pending := by
  exact ⟨rfl, rfl, rfl, rfl, rfl, rfl, rfl, rfl, rfl, rfl, rfl, rfl⟩

@[simp] theorem withdrawPhase_frame (s : State) (f : Int) :
    (withdrawPhase f s).dse = s.dse ∧ (withdrawPhase f s).fcl = s.fcl ∧
      (withdrawPhase f s).anu = s.anu ∧ (withdrawPhase f s).dtr = s.dtr ∧
      (withdrawPhase f s).wru = s.wru ∧ (withdrawPhase f s).dte = s.dte ∧
      (withdrawPhase f s).rrg = s.rrg ∧ (withdrawPhase f s).rpe = s.rpe ∧
      (withdrawPhase f s).egm = s.egm ∧ (withdrawPhase f s).mgu = s.mgu ∧
      (withdrawPhase f s).resetHeld = s.resetHeld ∧ (withdrawPhase f s).serial = s.serial ∧
      (withdrawPhase f s).pending = s.pending := by
  exact ⟨rfl, rfl, rfl, rfl, rfl, rfl, rfl, rfl, rfl, rfl, rfl, rfl, rfl⟩

@[simp] theorem writeServo_frame (s : State) (f g : Int) :
    (writeServo f g s).dse = s.dse ∧ (writeServo f g s).fcl = s.fcl ∧
      (writeServo f g s).anu = s.anu ∧ (writeServo f g s).dtr = s.dtr ∧
      (writeServo f g s).wru = s.wru ∧ (writeServo f g s).dte = s.dte ∧
      (writeServo f g s).rrg = s.rrg ∧ (writeServo f g s).rpe = s.rpe ∧
      (writeServo f g s).egm = s.egm ∧ (writeServo f g s).mgu = s.mgu ∧
      (writeServo f g s).resetHeld = s.resetHeld ∧ (writeServo f g s).serial = s.serial ∧
      (writeServo f g s).pending = s.pending := by
  exact ⟨rfl, rfl, rfl, rfl, rfl, rfl, rfl, rfl, rfl, rfl, rfl, rfl, rfl⟩

@[simp] theorem clearReport_frame (s : State) :
    (clearReport s).rcu = s.rcu ∧ (clearReport s).dse = s.dse ∧ (clearReport s).fcl = s.fcl ∧
      (clearReport s).anu = s.anu ∧ (clearReport s).dtr = s.dtr ∧ (clearReport s).wru = s.wru ∧
      (clearReport s).dte = s.dte ∧ (clearReport s).rrg = s.rrg ∧ (clearReport s).egm = s.egm ∧
      (clearReport s).mgu = s.mgu ∧ (clearReport s).resetHeld = s.resetHeld ∧
      (clearReport s).serial = s.serial ∧ (clearReport s).pending = s.pending := by
  exact ⟨rfl, rfl, rfl, rfl, rfl, rfl, rfl, rfl, rfl, rfl, rfl, rfl, rfl⟩

@[simp] theorem tickCounters_frame (s : State) :
    (tickCounters s).dse = s.dse ∧ (tickCounters s).fcl = s.fcl ∧ (tickCounters s).anu = s.anu ∧
      (tickCounters s).dtr = s.dtr ∧ (tickCounters s).wru = s.wru ∧
      (tickCounters s).dte = s.dte ∧ (tickCounters s).rrg = s.rrg ∧
      (tickCounters s).rpe = s.rpe ∧ (tickCounters s).egm = s.egm ∧
      (tickCounters s).mgu = s.mgu ∧ (tickCounters s).resetHeld = s.resetHeld ∧
      (tickCounters s).serial = s.serial ∧ (tickCounters s).pending = s.pending := by
  unfold tickCounters
  simp

@[simp] theorem startPulse_frame (s : State) :
    (startPulse s).dse = s.dse ∧ (startPulse s).fcl = s.fcl ∧ (startPulse s).anu = s.anu ∧
      (startPulse s).dtr = s.dtr ∧ (startPulse s).wru = s.wru ∧ (startPulse s).dte = s.dte ∧
      (startPulse s).rrg = s.rrg ∧ (startPulse s).rpe = s.rpe ∧ (startPulse s).egm = s.egm ∧
      (startPulse s).mgu = s.mgu ∧ (startPulse s).resetHeld = s.resetHeld ∧
      (startPulse s).serial = s.serial ∧ (startPulse s).pending = s.pending := by
  exact ⟨rfl, rfl, rfl, rfl, rfl, rfl, rfl, rfl, rfl, rfl, rfl, rfl, rfl⟩

@[simp] theorem enterBuffer_frame (s : State) (p : Port) (how : Admission) (f : PassFrame) :
    (enterBuffer p how f s).rcu = s.rcu ∧ (enterBuffer p how f s).dse = s.dse ∧
      (enterBuffer p how f s).fcl = s.fcl ∧ (enterBuffer p how f s).anu = s.anu ∧
      (enterBuffer p how f s).dtr = s.dtr ∧ (enterBuffer p how f s).wru = s.wru ∧
      (enterBuffer p how f s).dte = s.dte ∧ (enterBuffer p how f s).rrg = s.rrg ∧
      (enterBuffer p how f s).rpe = s.rpe ∧ (enterBuffer p how f s).mgu = s.mgu ∧
      (enterBuffer p how f s).resetHeld = s.resetHeld ∧
      (enterBuffer p how f s).serial = s.serial ∧ (enterBuffer p how f s).pending = s.pending := by
  unfold enterBuffer
  dsimp only
  repeat' split
  all_goals simp

@[simp] theorem passOn_frame (s : State) (p : Port) (a : Arriving) :
    (passOn p a s).rcu = s.rcu ∧ (passOn p a s).dse = s.dse ∧ (passOn p a s).anu = s.anu ∧
      (passOn p a s).dtr = s.dtr ∧ (passOn p a s).wru = s.wru ∧ (passOn p a s).dte = s.dte ∧
      (passOn p a s).rrg = s.rrg ∧ (passOn p a s).rpe = s.rpe ∧ (passOn p a s).mgu = s.mgu ∧
      (passOn p a s).resetHeld = s.resetHeld ∧ (passOn p a s).serial = s.serial ∧
      (passOn p a s).pending = s.pending := by
  unfold passOn
  dsimp only
  repeat' split
  all_goals simp

@[simp] theorem decideCourse_frame (s : State) (p : Port) :
    (decideCourse p s).rcu = s.rcu ∧ (decideCourse p s).dse = s.dse ∧
      (decideCourse p s).anu = s.anu ∧ (decideCourse p s).dtr = s.dtr ∧
      (decideCourse p s).wru = s.wru ∧ (decideCourse p s).dte = s.dte ∧
      (decideCourse p s).rrg = s.rrg ∧ (decideCourse p s).rpe = s.rpe ∧
      (decideCourse p s).mgu = s.mgu ∧ (decideCourse p s).resetHeld = s.resetHeld ∧
      (decideCourse p s).serial = s.serial ∧ (decideCourse p s).pending = s.pending := by
  unfold decideCourse
  repeat' split
  all_goals simp

@[simp] theorem takeOctets_frame (s : State) (p : Port) (o : List Byte) :
    (takeOctets p o s).rcu = s.rcu ∧ (takeOctets p o s).dse = s.dse ∧
      (takeOctets p o s).anu = s.anu ∧ (takeOctets p o s).dtr = s.dtr ∧
      (takeOctets p o s).wru = s.wru ∧ (takeOctets p o s).dte = s.dte ∧
      (takeOctets p o s).rrg = s.rrg ∧ (takeOctets p o s).rpe = s.rpe ∧
      (takeOctets p o s).mgu = s.mgu ∧ (takeOctets p o s).resetHeld = s.resetHeld ∧
      (takeOctets p o s).serial = s.serial ∧ (takeOctets p o s).pending = s.pending := by
  unfold takeOctets
  dsimp only
  repeat' split
  all_goals simp

@[simp] theorem receiveOctets_frame (s : State) (p : Port) (o : List Byte) :
    (receiveOctets p o s).rcu = s.rcu ∧ (receiveOctets p o s).dse = s.dse ∧
      (receiveOctets p o s).anu = s.anu ∧ (receiveOctets p o s).dtr = s.dtr ∧
      (receiveOctets p o s).wru = s.wru ∧ (receiveOctets p o s).dte = s.dte ∧
      (receiveOctets p o s).rrg = s.rrg ∧ (receiveOctets p o s).rpe = s.rpe ∧
      (receiveOctets p o s).mgu = s.mgu ∧ (receiveOctets p o s).resetHeld = s.resetHeld ∧
      (receiveOctets p o s).serial = s.serial ∧ (receiveOctets p o s).pending = s.pending := by
  unfold receiveOctets
  simp

@[simp] theorem applyFlow_frame (s : State) (fl : Flow) :
    (applyFlow fl s).rcu = s.rcu ∧ (applyFlow fl s).dse = s.dse ∧ (applyFlow fl s).anu = s.anu ∧
      (applyFlow fl s).dtr = s.dtr ∧ (applyFlow fl s).wru = s.wru ∧
      (applyFlow fl s).dte = s.dte ∧ (applyFlow fl s).rrg = s.rrg ∧
      (applyFlow fl s).rpe = s.rpe ∧ (applyFlow fl s).mgu = s.mgu ∧
      (applyFlow fl s).resetHeld = s.resetHeld ∧ (applyFlow fl s).serial = s.serial ∧
      (applyFlow fl s).pending = s.pending := by
  unfold applyFlow
  dsimp only
  all_goals simp

@[simp] theorem latch_frame (s : State) (b : Nat) :
    (latch b s).rcu = s.rcu ∧ (latch b s).dse = s.dse ∧ (latch b s).fcl = s.fcl ∧
      (latch b s).anu = s.anu ∧ (latch b s).dtr = s.dtr ∧ (latch b s).dte = s.dte ∧
      (latch b s).rrg = s.rrg ∧ (latch b s).rpe = s.rpe ∧ (latch b s).egm = s.egm ∧
      (latch b s).mgu = s.mgu ∧ (latch b s).resetHeld = s.resetHeld ∧
      (latch b s).serial = s.serial ∧ (latch b s).pending = s.pending := by
  unfold latch
  dsimp only
  repeat' split
  all_goals simp

@[simp] theorem giveEdge_frame (s : State) (b : Nat) (e : Edge) (sel : EdgeSelect) :
    (giveEdge b e sel s).rcu = s.rcu ∧ (giveEdge b e sel s).dse = s.dse ∧
      (giveEdge b e sel s).fcl = s.fcl ∧ (giveEdge b e sel s).anu = s.anu ∧
      (giveEdge b e sel s).dtr = s.dtr ∧ (giveEdge b e sel s).dte = s.dte ∧
      (giveEdge b e sel s).rrg = s.rrg ∧ (giveEdge b e sel s).rpe = s.rpe ∧
      (giveEdge b e sel s).egm = s.egm ∧ (giveEdge b e sel s).mgu = s.mgu ∧
      (giveEdge b e sel s).resetHeld = s.resetHeld ∧ (giveEdge b e sel s).serial = s.serial ∧
      (giveEdge b e sel s).pending = s.pending := by
  unfold giveEdge
  dsimp only
  repeat' split
  all_goals simp

@[simp] theorem giveChange_frame (s : State) (b : Nat) (x y : Bool) (sel : EdgeSelect) :
    (giveChange b x y sel s).rcu = s.rcu ∧ (giveChange b x y sel s).dse = s.dse ∧
      (giveChange b x y sel s).fcl = s.fcl ∧ (giveChange b x y sel s).anu = s.anu ∧
      (giveChange b x y sel s).dtr = s.dtr ∧ (giveChange b x y sel s).dte = s.dte ∧
      (giveChange b x y sel s).rrg = s.rrg ∧ (giveChange b x y sel s).rpe = s.rpe ∧
      (giveChange b x y sel s).egm = s.egm ∧ (giveChange b x y sel s).mgu = s.mgu ∧
      (giveChange b x y sel s).resetHeld = s.resetHeld ∧
      (giveChange b x y sel s).serial = s.serial ∧ (giveChange b x y sel s).pending = s.pending := by
  unfold giveChange
  repeat' split
  all_goals simp

@[simp] theorem dueCheck_frame (s : State) :
    (dueCheck s).rcu = s.rcu ∧ (dueCheck s).dse = s.dse ∧ (dueCheck s).fcl = s.fcl ∧
      (dueCheck s).anu = s.anu ∧ (dueCheck s).dtr = s.dtr ∧ (dueCheck s).wru = s.wru ∧
      (dueCheck s).dte = s.dte ∧ (dueCheck s).rrg = s.rrg ∧ (dueCheck s).mgu = s.mgu ∧
      (dueCheck s).resetHeld = s.resetHeld ∧ (dueCheck s).serial = s.serial ∧
      (dueCheck s).pending = s.pending := by
  unfold dueCheck
  repeat' split
  all_goals simp

@[simp] theorem offer_frame (s : State) (r : Record) :
    (offer r s).rcu = s.rcu ∧ (offer r s).dse = s.dse ∧ (offer r s).fcl = s.fcl ∧
      (offer r s).anu = s.anu ∧ (offer r s).dtr = s.dtr ∧ (offer r s).dte = s.dte ∧
      (offer r s).mgu = s.mgu ∧ (offer r s).resetHeld = s.resetHeld ∧
      (offer r s).serial = s.serial ∧ (offer r s).pending = s.pending := by
  unfold offer
  repeat' split
  all_goals simp

@[simp] theorem rackNotice_frame (s : State) (c : RackCause) (old new : DState) (v : Int) :
    (rackNotice c old new v s).rcu = s.rcu ∧ (rackNotice c old new v s).dse = s.dse ∧
      (rackNotice c old new v s).fcl = s.fcl ∧ (rackNotice c old new v s).anu = s.anu ∧
      (rackNotice c old new v s).dtr = s.dtr ∧ (rackNotice c old new v s).dte = s.dte ∧
      (rackNotice c old new v s).mgu = s.mgu ∧
      (rackNotice c old new v s).resetHeld = s.resetHeld ∧
      (rackNotice c old new v s).serial = s.serial ∧
      (rackNotice c old new v s).pending = s.pending := by
  unfold rackNotice
  all_goals simp

@[simp] theorem serverNotice_frame (s : State) (i : Nat) (sv : Server) (old new : Option SState) (c : ServerCause) :
    (serverNotice i sv old new c s).rcu = s.rcu ∧ (serverNotice i sv old new c s).dse = s.dse ∧
      (serverNotice i sv old new c s).fcl = s.fcl ∧ (serverNotice i sv old new c s).anu = s.anu ∧
      (serverNotice i sv old new c s).dtr = s.dtr ∧ (serverNotice i sv old new c s).dte = s.dte ∧
      (serverNotice i sv old new c s).mgu = s.mgu ∧
      (serverNotice i sv old new c s).resetHeld = s.resetHeld ∧
      (serverNotice i sv old new c s).serial = s.serial ∧
      (serverNotice i sv old new c s).pending = s.pending := by
  unfold serverNotice
  all_goals simp

@[simp] theorem deferredFlush_frame (s : State) :
    (deferredFlush s).rcu = s.rcu ∧ (deferredFlush s).dse = s.dse ∧
      (deferredFlush s).fcl = s.fcl ∧ (deferredFlush s).anu = s.anu ∧
      (deferredFlush s).dtr = s.dtr ∧ (deferredFlush s).wru = s.wru ∧
      (deferredFlush s).dte = s.dte ∧ (deferredFlush s).egm = s.egm ∧
      (deferredFlush s).mgu = s.mgu ∧ (deferredFlush s).resetHeld = s.resetHeld ∧
      (deferredFlush s).serial = s.serial ∧ (deferredFlush s).pending = s.pending := by
  unfold deferredFlush
  dsimp only
  repeat' split
  all_goals simp

@[simp] theorem buildAlert_frame (s : State) :
    (buildAlert s).rcu = s.rcu ∧ (buildAlert s).dse = s.dse ∧ (buildAlert s).fcl = s.fcl ∧
      (buildAlert s).anu = s.anu ∧ (buildAlert s).dtr = s.dtr ∧ (buildAlert s).dte = s.dte ∧
      (buildAlert s).rrg = s.rrg ∧ (buildAlert s).rpe = s.rpe ∧ (buildAlert s).mgu = s.mgu ∧
      (buildAlert s).resetHeld = s.resetHeld ∧ (buildAlert s).serial = s.serial ∧
      (buildAlert s).pending = s.pending := by
  unfold buildAlert
  dsimp only
  repeat' split
  all_goals simp

@[simp] theorem alertTest_frame (s : State) :
    (alertTest s).rcu = s.rcu ∧ (alertTest s).dse = s.dse ∧ (alertTest s).fcl = s.fcl ∧
      (alertTest s).anu = s.anu ∧ (alertTest s).dtr = s.dtr ∧ (alertTest s).dte = s.dte ∧
      (alertTest s).rrg = s.rrg ∧ (alertTest s).rpe = s.rpe ∧ (alertTest s).mgu = s.mgu ∧
      (alertTest s).resetHeld = s.resetHeld ∧ (alertTest s).serial = s.serial ∧
      (alertTest s).pending = s.pending := by
  unfold alertTest
  repeat' split
  all_goals simp

@[simp] theorem finish_frame (s : State) :
    (finish s).rcu = s.rcu ∧ (finish s).dse = s.dse ∧ (finish s).fcl = s.fcl ∧
      (finish s).anu = s.anu ∧ (finish s).dtr = s.dtr ∧ (finish s).dte = s.dte ∧
      (finish s).rrg = s.rrg ∧ (finish s).rpe = s.rpe ∧ (finish s).mgu = s.mgu ∧
      (finish s).resetHeld = s.resetHeld ∧ (finish s).serial = s.serial ∧
      (finish s).pending = s.pending := by
  unfold finish
  dsimp only
  repeat' split
  all_goals simp

@[simp] theorem settleAlert_frame (s : State) (a : Alert) :
    (settleAlert a s).rcu = s.rcu ∧ (settleAlert a s).dse = s.dse ∧
      (settleAlert a s).fcl = s.fcl ∧ (settleAlert a s).anu = s.anu ∧
      (settleAlert a s).dtr = s.dtr ∧ (settleAlert a s).dte = s.dte ∧
      (settleAlert a s).rrg = s.rrg ∧ (settleAlert a s).rpe = s.rpe ∧
      (settleAlert a s).egm = s.egm ∧ (settleAlert a s).mgu = s.mgu ∧
      (settleAlert a s).resetHeld = s.resetHeld ∧ (settleAlert a s).serial = s.serial ∧
      (settleAlert a s).pending = s.pending := by
  unfold settleAlert
  dsimp only
  repeat' split
  all_goals simp

@[simp] theorem setDState_frame (s : State) (new : DState) :
    (setDState new s).rcu = s.rcu ∧ (setDState new s).fcl = s.fcl ∧
      (setDState new s).anu = s.anu ∧ (setDState new s).dtr = s.dtr ∧
      (setDState new s).dte = s.dte ∧ (setDState new s).mgu = s.mgu ∧
      (setDState new s).resetHeld = s.resetHeld ∧ (setDState new s).serial = s.serial ∧
      (setDState new s).pending = s.pending := by
  unfold setDState
  dsimp only
  repeat' split
  all_goals simp

@[simp] theorem applyStep_frame (s : State) (n : Nat) :
    (applyStep n s).fcl = s.fcl ∧ (applyStep n s).anu = s.anu ∧ (applyStep n s).dtr = s.dtr ∧
      (applyStep n s).dte = s.dte ∧ (applyStep n s).mgu = s.mgu ∧
      (applyStep n s).resetHeld = s.resetHeld ∧ (applyStep n s).serial = s.serial ∧
      (applyStep n s).pending = s.pending := by
  unfold applyStep
  dsimp only
  all_goals simp

@[simp] theorem queueAnswer_frame (s : State) (n : Nat) (p : Port) :
    (queueAnswer n p s).rcu = s.rcu ∧ (queueAnswer n p s).dse = s.dse ∧
      (queueAnswer n p s).fcl = s.fcl ∧ (queueAnswer n p s).dtr = s.dtr ∧
      (queueAnswer n p s).wru = s.wru ∧ (queueAnswer n p s).dte = s.dte ∧
      (queueAnswer n p s).rrg = s.rrg ∧ (queueAnswer n p s).rpe = s.rpe ∧
      (queueAnswer n p s).mgu = s.mgu ∧ (queueAnswer n p s).resetHeld = s.resetHeld ∧
      (queueAnswer n p s).serial = s.serial ∧ (queueAnswer n p s).pending = s.pending := by
  unfold queueAnswer
  repeat' split
  all_goals simp

@[simp] theorem changeLast_frame (s : State) (p : Port) (f : PassFrame → PassFrame) :
    (changeLast p f s).rcu = s.rcu ∧ (changeLast p f s).dse = s.dse ∧
      (changeLast p f s).fcl = s.fcl ∧ (changeLast p f s).anu = s.anu ∧
      (changeLast p f s).dtr = s.dtr ∧ (changeLast p f s).wru = s.wru ∧
      (changeLast p f s).dte = s.dte ∧ (changeLast p f s).rrg = s.rrg ∧
      (changeLast p f s).rpe = s.rpe ∧ (changeLast p f s).mgu = s.mgu ∧
      (changeLast p f s).resetHeld = s.resetHeld ∧ (changeLast p f s).serial = s.serial ∧
      (changeLast p f s).pending = s.pending := by
  unfold changeLast
  dsimp only
  repeat' split
  all_goals simp

@[simp] theorem closeArrival_frame (s : State) (p : Port) (a : Arriving) (how : Arrival) :
    (closeArrival p a how s).rcu = s.rcu ∧ (closeArrival p a how s).dse = s.dse ∧
      (closeArrival p a how s).anu = s.anu ∧ (closeArrival p a how s).dtr = s.dtr ∧
      (closeArrival p a how s).wru = s.wru ∧ (closeArrival p a how s).dte = s.dte ∧
      (closeArrival p a how s).rrg = s.rrg ∧ (closeArrival p a how s).rpe = s.rpe ∧
      (closeArrival p a how s).mgu = s.mgu ∧ (closeArrival p a how s).resetHeld = s.resetHeld ∧
      (closeArrival p a how s).serial = s.serial ∧ (closeArrival p a how s).pending = s.pending := by
  unfold closeArrival
  dsimp only
  repeat' split
  all_goals simp

@[simp] theorem moveToBuffer_frame (s : State) (p : Port) (a : Arriving) (how : Arrival) :
    (moveToBuffer p a how s).rcu = s.rcu ∧ (moveToBuffer p a how s).dse = s.dse ∧
      (moveToBuffer p a how s).fcl = s.fcl ∧ (moveToBuffer p a how s).anu = s.anu ∧
      (moveToBuffer p a how s).dtr = s.dtr ∧ (moveToBuffer p a how s).wru = s.wru ∧
      (moveToBuffer p a how s).dte = s.dte ∧ (moveToBuffer p a how s).rrg = s.rrg ∧
      (moveToBuffer p a how s).rpe = s.rpe ∧ (moveToBuffer p a how s).mgu = s.mgu ∧
      (moveToBuffer p a how s).resetHeld = s.resetHeld ∧
      (moveToBuffer p a how s).serial = s.serial ∧ (moveToBuffer p a how s).pending = s.pending := by
  unfold moveToBuffer
  dsimp only
  all_goals simp

@[simp] theorem endsBad_frame (s : State) (p : Port) (how : Arrival) :
    (endsBad p how s).rcu = s.rcu ∧ (endsBad p how s).dse = s.dse ∧
      (endsBad p how s).anu = s.anu ∧ (endsBad p how s).dtr = s.dtr ∧
      (endsBad p how s).wru = s.wru ∧ (endsBad p how s).dte = s.dte ∧
      (endsBad p how s).rrg = s.rrg ∧ (endsBad p how s).rpe = s.rpe ∧
      (endsBad p how s).mgu = s.mgu ∧ (endsBad p how s).resetHeld = s.resetHeld ∧
      (endsBad p how s).serial = s.serial ∧ (endsBad p how s).pending = s.pending := by
  unfold endsBad
  dsimp only
  repeat' split
  all_goals simp

@[simp] theorem lineEndsBad_frame (s : State) (p : Port) :
    (lineEndsBad p s).rcu = s.rcu ∧ (lineEndsBad p s).dse = s.dse ∧
      (lineEndsBad p s).anu = s.anu ∧ (lineEndsBad p s).dtr = s.dtr ∧
      (lineEndsBad p s).wru = s.wru ∧ (lineEndsBad p s).dte = s.dte ∧
      (lineEndsBad p s).rrg = s.rrg ∧ (lineEndsBad p s).rpe = s.rpe ∧
      (lineEndsBad p s).mgu = s.mgu ∧ (lineEndsBad p s).resetHeld = s.resetHeld ∧
      (lineEndsBad p s).serial = s.serial ∧ (lineEndsBad p s).pending = s.pending := by
  unfold lineEndsBad
  repeat' split
  all_goals simp

@[simp] theorem datingWalk_frame (s : State) (key : BitVec 32) :
    ((datingWalk key s).1).rcu = s.rcu ∧ ((datingWalk key s).1).dse = s.dse ∧
      ((datingWalk key s).1).anu = s.anu ∧ ((datingWalk key s).1).dtr = s.dtr ∧
      ((datingWalk key s).1).wru = s.wru ∧ ((datingWalk key s).1).dte = s.dte ∧
      ((datingWalk key s).1).rrg = s.rrg ∧ ((datingWalk key s).1).rpe = s.rpe ∧
      ((datingWalk key s).1).egm = s.egm ∧ ((datingWalk key s).1).mgu = s.mgu ∧
      ((datingWalk key s).1).resetHeld = s.resetHeld ∧ ((datingWalk key s).1).serial = s.serial ∧
      ((datingWalk key s).1).pending = s.pending := by
  unfold datingWalk
  repeat' split
  all_goals simp

end Sys2Proof.Machine
end

