-- ==== Sys2Proof/Laws/BlockFrame.lean ====
section
/-! SUPPORT. Frames: which parts of the state each operation leaves as they were: the operations of the discipline, of tracking, dating and answering, and of the merge. -/

namespace Sys2Proof.Machine

@[simp] theorem reachFreerun_frame (s : State) :
    (reachFreerun s).rcu = s.rcu ∧ (reachFreerun s).fcl = s.fcl ∧ (reachFreerun s).anu = s.anu ∧
      (reachFreerun s).dtr = s.dtr ∧ (reachFreerun s).dte = s.dte ∧
      (reachFreerun s).mgu = s.mgu ∧ (reachFreerun s).resetHeld = s.resetHeld ∧
      (reachFreerun s).serial = s.serial ∧ (reachFreerun s).pending = s.pending := by
  unfold reachFreerun
  dsimp only
  all_goals simp

@[simp] theorem testHoldoverLimit_frame (s : State) :
    (testHoldoverLimit s).rcu = s.rcu ∧ (testHoldoverLimit s).fcl = s.fcl ∧
      (testHoldoverLimit s).anu = s.anu ∧ (testHoldoverLimit s).dtr = s.dtr ∧
      (testHoldoverLimit s).dte = s.dte ∧ (testHoldoverLimit s).mgu = s.mgu ∧
      (testHoldoverLimit s).resetHeld = s.resetHeld ∧ (testHoldoverLimit s).serial = s.serial ∧
      (testHoldoverLimit s).pending = s.pending := by
  unfold testHoldoverLimit
  repeat' split
  all_goals simp

@[simp] theorem enterHoldover_frame (s : State) :
    (enterHoldover s).fcl = s.fcl ∧ (enterHoldover s).anu = s.anu ∧
      (enterHoldover s).dtr = s.dtr ∧ (enterHoldover s).dte = s.dte ∧
      (enterHoldover s).mgu = s.mgu ∧ (enterHoldover s).resetHeld = s.resetHeld ∧
      (enterHoldover s).serial = s.serial ∧ (enterHoldover s).pending = s.pending := by
  unfold enterHoldover
  dsimp only
  all_goals simp

@[simp] theorem miss_frame (s : State) :
    (miss s).fcl = s.fcl ∧ (miss s).anu = s.anu ∧ (miss s).dtr = s.dtr ∧ (miss s).dte = s.dte ∧
      (miss s).mgu = s.mgu ∧ (miss s).resetHeld = s.resetHeld ∧ (miss s).serial = s.serial ∧
      (miss s).pending = s.pending := by
  unfold miss
  dsimp only
  repeat' split
  all_goals simp

@[simp] theorem loseOutstanding_frame (s : State) (q : Seq) :
    (loseOutstanding q s).fcl = s.fcl ∧ (loseOutstanding q s).anu = s.anu ∧
      (loseOutstanding q s).dtr = s.dtr ∧ (loseOutstanding q s).dte = s.dte ∧
      (loseOutstanding q s).mgu = s.mgu ∧ (loseOutstanding q s).resetHeld = s.resetHeld ∧
      (loseOutstanding q s).serial = s.serial ∧ (loseOutstanding q s).pending = s.pending := by
  unfold loseOutstanding
  dsimp only
  repeat' split
  all_goals simp

@[simp] theorem queueProbe_frame (s : State) (f : ProbeFrame) :
    (queueProbe f s).fcl = s.fcl ∧ (queueProbe f s).anu = s.anu ∧ (queueProbe f s).dtr = s.dtr ∧
      (queueProbe f s).dte = s.dte ∧ (queueProbe f s).mgu = s.mgu ∧
      (queueProbe f s).resetHeld = s.resetHeld ∧ (queueProbe f s).serial = s.serial ∧
      (queueProbe f s).pending = s.pending := by
  unfold queueProbe
  dsimp only
  repeat' split
  all_goals simp

@[simp] theorem releaseHeld_frame (s : State) :
    (releaseHeld s).fcl = s.fcl ∧ (releaseHeld s).anu = s.anu ∧ (releaseHeld s).dtr = s.dtr ∧
      (releaseHeld s).dte = s.dte ∧ (releaseHeld s).mgu = s.mgu ∧
      (releaseHeld s).resetHeld = s.resetHeld ∧ (releaseHeld s).serial = s.serial ∧
      (releaseHeld s).pending = s.pending := by
  unfold releaseHeld
  dsimp only
  repeat' split
  all_goals simp

@[simp] theorem probeDropped_frame (s : State) :
    (probeDropped s).fcl = s.fcl ∧ (probeDropped s).anu = s.anu ∧ (probeDropped s).dtr = s.dtr ∧
      (probeDropped s).dte = s.dte ∧ (probeDropped s).mgu = s.mgu ∧
      (probeDropped s).resetHeld = s.resetHeld ∧ (probeDropped s).serial = s.serial ∧
      (probeDropped s).pending = s.pending := by
  unfold probeDropped
  dsimp only
  repeat' split
  all_goals simp

@[simp] theorem probeEnded_frame (s : State) :
    (probeEnded s).fcl = s.fcl ∧ (probeEnded s).anu = s.anu ∧ (probeEnded s).dtr = s.dtr ∧
      (probeEnded s).dte = s.dte ∧ (probeEnded s).mgu = s.mgu ∧
      (probeEnded s).resetHeld = s.resetHeld ∧ (probeEnded s).serial = s.serial ∧
      (probeEnded s).pending = s.pending := by
  unfold probeEnded
  dsimp only
  all_goals simp

@[simp] theorem withdrawProbe_frame (s : State) :
    (withdrawProbe s).rcu = s.rcu ∧ (withdrawProbe s).fcl = s.fcl ∧
      (withdrawProbe s).anu = s.anu ∧ (withdrawProbe s).dtr = s.dtr ∧
      (withdrawProbe s).wru = s.wru ∧ (withdrawProbe s).dte = s.dte ∧
      (withdrawProbe s).rrg = s.rrg ∧ (withdrawProbe s).rpe = s.rpe ∧
      (withdrawProbe s).mgu = s.mgu ∧ (withdrawProbe s).resetHeld = s.resetHeld ∧
      (withdrawProbe s).serial = s.serial ∧ (withdrawProbe s).pending = s.pending := by
  unfold withdrawProbe
  dsimp only
  repeat' split
  all_goals simp

@[simp] theorem buildProbe_frame (s : State) :
    (buildProbe s).fcl = s.fcl ∧ (buildProbe s).anu = s.anu ∧ (buildProbe s).dtr = s.dtr ∧
      (buildProbe s).dte = s.dte ∧ (buildProbe s).mgu = s.mgu ∧
      (buildProbe s).resetHeld = s.resetHeld ∧ (buildProbe s).serial = s.serial ∧
      (buildProbe s).pending = s.pending := by
  unfold buildProbe
  dsimp only
  repeat' split
  all_goals simp

@[simp] theorem missOutstanding_frame (s : State) :
    (missOutstanding s).fcl = s.fcl ∧ (missOutstanding s).anu = s.anu ∧
      (missOutstanding s).dtr = s.dtr ∧ (missOutstanding s).dte = s.dte ∧
      (missOutstanding s).mgu = s.mgu ∧ (missOutstanding s).resetHeld = s.resetHeld ∧
      (missOutstanding s).serial = s.serial ∧ (missOutstanding s).pending = s.pending := by
  unfold missOutstanding
  dsimp only
  repeat' split
  all_goals simp

@[simp] theorem reloadProbeTimer_frame (s : State) :
    (reloadProbeTimer s).rcu = s.rcu ∧ (reloadProbeTimer s).fcl = s.fcl ∧
      (reloadProbeTimer s).anu = s.anu ∧ (reloadProbeTimer s).dtr = s.dtr ∧
      (reloadProbeTimer s).wru = s.wru ∧ (reloadProbeTimer s).dte = s.dte ∧
      (reloadProbeTimer s).rrg = s.rrg ∧ (reloadProbeTimer s).rpe = s.rpe ∧
      (reloadProbeTimer s).egm = s.egm ∧ (reloadProbeTimer s).mgu = s.mgu ∧
      (reloadProbeTimer s).resetHeld = s.resetHeld ∧ (reloadProbeTimer s).serial = s.serial ∧
      (reloadProbeTimer s).pending = s.pending := by
  exact ⟨rfl, rfl, rfl, rfl, rfl, rfl, rfl, rfl, rfl, rfl, rfl, rfl, rfl⟩

@[simp] theorem unsentProbe_frame (s : State) :
    (unsentProbe s).fcl = s.fcl ∧ (unsentProbe s).anu = s.anu ∧ (unsentProbe s).dtr = s.dtr ∧
      (unsentProbe s).dte = s.dte ∧ (unsentProbe s).mgu = s.mgu ∧
      (unsentProbe s).resetHeld = s.resetHeld ∧ (unsentProbe s).serial = s.serial ∧
      (unsentProbe s).pending = s.pending := by
  unfold unsentProbe
  dsimp only
  repeat' split
  all_goals simp

@[simp] theorem probeExpiry_frame (s : State) :
    (probeExpiry s).fcl = s.fcl ∧ (probeExpiry s).anu = s.anu ∧ (probeExpiry s).dtr = s.dtr ∧
      (probeExpiry s).dte = s.dte ∧ (probeExpiry s).mgu = s.mgu ∧
      (probeExpiry s).resetHeld = s.resetHeld ∧ (probeExpiry s).serial = s.serial ∧
      (probeExpiry s).pending = s.pending := by
  unfold probeExpiry
  dsimp only
  repeat' split
  all_goals simp

@[simp] theorem dseStep_frame (s : State) (n : Int) :
    (dseStep n s).fcl = s.fcl ∧ (dseStep n s).anu = s.anu ∧ (dseStep n s).dtr = s.dtr ∧
      (dseStep n s).dte = s.dte ∧ (dseStep n s).mgu = s.mgu ∧
      (dseStep n s).resetHeld = s.resetHeld ∧ (dseStep n s).serial = s.serial ∧
      (dseStep n s).pending = s.pending := by
  unfold dseStep
  dsimp only
  all_goals simp

@[simp] theorem pushHistory_frame (s : State) :
    (pushHistory s).rcu = s.rcu ∧ (pushHistory s).fcl = s.fcl ∧ (pushHistory s).anu = s.anu ∧
      (pushHistory s).dtr = s.dtr ∧ (pushHistory s).dte = s.dte ∧ (pushHistory s).mgu = s.mgu ∧
      (pushHistory s).resetHeld = s.resetHeld ∧ (pushHistory s).serial = s.serial ∧
      (pushHistory s).pending = s.pending := by
  unfold pushHistory
  dsimp only
  repeat' split
  all_goals simp

@[simp] theorem advanceLock_frame (s : State) :
    (advanceLock s).rcu = s.rcu ∧ (advanceLock s).fcl = s.fcl ∧ (advanceLock s).anu = s.anu ∧
      (advanceLock s).dtr = s.dtr ∧ (advanceLock s).dte = s.dte ∧ (advanceLock s).mgu = s.mgu ∧
      (advanceLock s).resetHeld = s.resetHeld ∧ (advanceLock s).serial = s.serial ∧
      (advanceLock s).pending = s.pending := by
  unfold advanceLock
  dsimp only
  repeat' split
  all_goals simp

@[simp] theorem slew_frame (s : State) (x : Int) :
    (slew x s).fcl = s.fcl ∧ (slew x s).anu = s.anu ∧ (slew x s).dtr = s.dtr ∧
      (slew x s).wru = s.wru ∧ (slew x s).dte = s.dte ∧ (slew x s).rrg = s.rrg ∧
      (slew x s).rpe = s.rpe ∧ (slew x s).egm = s.egm ∧ (slew x s).mgu = s.mgu ∧
      (slew x s).resetHeld = s.resetHeld ∧ (slew x s).serial = s.serial ∧
      (slew x s).pending = s.pending := by
  unfold slew
  dsimp only
  repeat' split
  all_goals simp

@[simp] theorem lockIn_frame (s : State) (x : Int) :
    (lockIn x s).rcu = s.rcu ∧ (lockIn x s).fcl = s.fcl ∧ (lockIn x s).anu = s.anu ∧
      (lockIn x s).dtr = s.dtr ∧ (lockIn x s).dte = s.dte ∧ (lockIn x s).mgu = s.mgu ∧
      (lockIn x s).resetHeld = s.resetHeld ∧ (lockIn x s).serial = s.serial ∧
      (lockIn x s).pending = s.pending := by
  unfold lockIn
  dsimp only
  repeat' split
  all_goals simp

@[simp] theorem unlock_frame (s : State) (x : Int) :
    (unlock x s).rcu = s.rcu ∧ (unlock x s).fcl = s.fcl ∧ (unlock x s).anu = s.anu ∧
      (unlock x s).dtr = s.dtr ∧ (unlock x s).dte = s.dte ∧ (unlock x s).mgu = s.mgu ∧
      (unlock x s).resetHeld = s.resetHeld ∧ (unlock x s).serial = s.serial ∧
      (unlock x s).pending = s.pending := by
  unfold unlock
  dsimp only
  repeat' split
  all_goals simp

@[simp] theorem acquireExchange_frame (s : State) (x : Int) :
    (acquireExchange x s).fcl = s.fcl ∧ (acquireExchange x s).anu = s.anu ∧
      (acquireExchange x s).dtr = s.dtr ∧ (acquireExchange x s).dte = s.dte ∧
      (acquireExchange x s).mgu = s.mgu ∧ (acquireExchange x s).resetHeld = s.resetHeld ∧
      (acquireExchange x s).serial = s.serial ∧ (acquireExchange x s).pending = s.pending := by
  unfold acquireExchange
  dsimp only
  repeat' split
  all_goals simp

@[simp] theorem lockedExchange_frame (s : State) (x : Int) :
    (lockedExchange x s).fcl = s.fcl ∧ (lockedExchange x s).anu = s.anu ∧
      (lockedExchange x s).dtr = s.dtr ∧ (lockedExchange x s).dte = s.dte ∧
      (lockedExchange x s).mgu = s.mgu ∧ (lockedExchange x s).resetHeld = s.resetHeld ∧
      (lockedExchange x s).serial = s.serial ∧ (lockedExchange x s).pending = s.pending := by
  unfold lockedExchange
  dsimp only
  repeat' split
  all_goals simp

@[simp] theorem returnFromHoldover_frame (s : State) :
    (returnFromHoldover s).rcu = s.rcu ∧ (returnFromHoldover s).fcl = s.fcl ∧
      (returnFromHoldover s).anu = s.anu ∧ (returnFromHoldover s).dtr = s.dtr ∧
      (returnFromHoldover s).dte = s.dte ∧ (returnFromHoldover s).mgu = s.mgu ∧
      (returnFromHoldover s).resetHeld = s.resetHeld ∧ (returnFromHoldover s).serial = s.serial ∧
      (returnFromHoldover s).pending = s.pending := by
  unfold returnFromHoldover
  dsimp only
  repeat' split
  all_goals simp

@[simp] theorem acceptExchange_frame (s : State) (x : Int) :
    (acceptExchange x s).fcl = s.fcl ∧ (acceptExchange x s).anu = s.anu ∧
      (acceptExchange x s).dtr = s.dtr ∧ (acceptExchange x s).dte = s.dte ∧
      (acceptExchange x s).mgu = s.mgu ∧ (acceptExchange x s).resetHeld = s.resetHeld ∧
      (acceptExchange x s).serial = s.serial ∧ (acceptExchange x s).pending = s.pending := by
  unfold acceptExchange
  dsimp only
  repeat' split
  all_goals simp

@[simp] theorem gateExchange_frame (s : State) (d x : Int) :
    (gateExchange d x s).fcl = s.fcl ∧ (gateExchange d x s).anu = s.anu ∧
      (gateExchange d x s).dtr = s.dtr ∧ (gateExchange d x s).dte = s.dte ∧
      (gateExchange d x s).mgu = s.mgu ∧ (gateExchange d x s).resetHeld = s.resetHeld ∧
      (gateExchange d x s).serial = s.serial ∧ (gateExchange d x s).pending = s.pending := by
  unfold gateExchange
  dsimp only
  repeat' split
  all_goals simp

@[simp] theorem screenDelay_frame (s : State) (d x : Int) :
    (screenDelay d x s).fcl = s.fcl ∧ (screenDelay d x s).anu = s.anu ∧
      (screenDelay d x s).dtr = s.dtr ∧ (screenDelay d x s).dte = s.dte ∧
      (screenDelay d x s).mgu = s.mgu ∧ (screenDelay d x s).resetHeld = s.resetHeld ∧
      (screenDelay d x s).serial = s.serial ∧ (screenDelay d x s).pending = s.pending := by
  unfold screenDelay
  repeat' split
  all_goals simp

@[simp] theorem screenEcho_frame (s : State) (e : EchoFields) (t1 t4 : Stamp) :
    (screenEcho e t1 t4 s).fcl = s.fcl ∧ (screenEcho e t1 t4 s).anu = s.anu ∧
      (screenEcho e t1 t4 s).dtr = s.dtr ∧ (screenEcho e t1 t4 s).dte = s.dte ∧
      (screenEcho e t1 t4 s).mgu = s.mgu ∧ (screenEcho e t1 t4 s).resetHeld = s.resetHeld ∧
      (screenEcho e t1 t4 s).serial = s.serial ∧ (screenEcho e t1 t4 s).pending = s.pending := by
  unfold screenEcho
  repeat' split
  all_goals simp

@[simp] theorem takeEcho_frame (s : State) (a : Arriving) :
    (takeEcho a s).fcl = s.fcl ∧ (takeEcho a s).anu = s.anu ∧ (takeEcho a s).dtr = s.dtr ∧
      (takeEcho a s).dte = s.dte ∧ (takeEcho a s).mgu = s.mgu ∧
      (takeEcho a s).resetHeld = s.resetHeld ∧ (takeEcho a s).serial = s.serial ∧
      (takeEcho a s).pending = s.pending := by
  unfold takeEcho
  dsimp only
  repeat' split
  all_goals simp

@[simp] theorem growthExpiry_frame (s : State) :
    (growthExpiry s).rcu = s.rcu ∧ (growthExpiry s).fcl = s.fcl ∧ (growthExpiry s).anu = s.anu ∧
      (growthExpiry s).dtr = s.dtr ∧ (growthExpiry s).dte = s.dte ∧
      (growthExpiry s).mgu = s.mgu ∧ (growthExpiry s).resetHeld = s.resetHeld ∧
      (growthExpiry s).serial = s.serial ∧ (growthExpiry s).pending = s.pending := by
  unfold growthExpiry
  dsimp only
  all_goals simp

@[simp] theorem recomputeMajority_frame (s : State) :
    (recomputeMajority s).rcu = s.rcu ∧ (recomputeMajority s).dse = s.dse ∧
      (recomputeMajority s).fcl = s.fcl ∧ (recomputeMajority s).anu = s.anu ∧
      (recomputeMajority s).dte = s.dte ∧ (recomputeMajority s).mgu = s.mgu ∧
      (recomputeMajority s).resetHeld = s.resetHeld ∧ (recomputeMajority s).serial = s.serial ∧
      (recomputeMajority s).pending = s.pending := by
  unfold recomputeMajority
  dsimp only
  repeat' split
  all_goals simp

@[simp] theorem sampleOutputs_frame (s : State) (i : Nat) (old : Server) (m : Sample) :
    (sampleOutputs i old m s).rcu = s.rcu ∧ (sampleOutputs i old m s).dse = s.dse ∧
      (sampleOutputs i old m s).fcl = s.fcl ∧ (sampleOutputs i old m s).anu = s.anu ∧
      (sampleOutputs i old m s).dtr = s.dtr ∧ (sampleOutputs i old m s).dte = s.dte ∧
      (sampleOutputs i old m s).mgu = s.mgu ∧ (sampleOutputs i old m s).resetHeld = s.resetHeld ∧
      (sampleOutputs i old m s).serial = s.serial ∧ (sampleOutputs i old m s).pending = s.pending := by
  unfold sampleOutputs
  dsimp only
  repeat' split
  all_goals simp

@[simp] theorem sampleEntry_frame (s : State) (i : Nat) (ing : Ingress) (ts : Stamp) (d : BitVec 32) :
    (sampleEntry i ing ts d s).rcu = s.rcu ∧ (sampleEntry i ing ts d s).dse = s.dse ∧
      (sampleEntry i ing ts d s).fcl = s.fcl ∧ (sampleEntry i ing ts d s).anu = s.anu ∧
      (sampleEntry i ing ts d s).dte = s.dte ∧ (sampleEntry i ing ts d s).mgu = s.mgu ∧
      (sampleEntry i ing ts d s).resetHeld = s.resetHeld ∧
      (sampleEntry i ing ts d s).serial = s.serial ∧
      (sampleEntry i ing ts d s).pending = s.pending := by
  unfold sampleEntry
  dsimp only
  repeat' split
  all_goals simp

@[simp] theorem trackQuery_frame (s : State) (a : Address) (ing : Ingress) (ts : Stamp) (d : BitVec 32) :
    (trackQuery a ing ts d s).rcu = s.rcu ∧ (trackQuery a ing ts d s).dse = s.dse ∧
      (trackQuery a ing ts d s).fcl = s.fcl ∧ (trackQuery a ing ts d s).anu = s.anu ∧
      (trackQuery a ing ts d s).dte = s.dte ∧ (trackQuery a ing ts d s).mgu = s.mgu ∧
      (trackQuery a ing ts d s).resetHeld = s.resetHeld ∧
      (trackQuery a ing ts d s).serial = s.serial ∧ (trackQuery a ing ts d s).pending = s.pending := by
  unfold trackQuery
  dsimp only
  repeat' split
  all_goals simp

@[simp] theorem clearServer_frame (s : State) (i : Nat) (sv : Server) (c : ServerCause) :
    (clearServer i sv c s).rcu = s.rcu ∧ (clearServer i sv c s).dse = s.dse ∧
      (clearServer i sv c s).fcl = s.fcl ∧ (clearServer i sv c s).anu = s.anu ∧
      (clearServer i sv c s).dte = s.dte ∧ (clearServer i sv c s).mgu = s.mgu ∧
      (clearServer i sv c s).resetHeld = s.resetHeld ∧ (clearServer i sv c s).serial = s.serial ∧
      (clearServer i sv c s).pending = s.pending := by
  unfold clearServer
  dsimp only
  all_goals simp

@[simp] theorem removeServer_frame (s : State) (i : Nat) :
    (removeServer i s).rcu = s.rcu ∧ (removeServer i s).dse = s.dse ∧
      (removeServer i s).fcl = s.fcl ∧ (removeServer i s).anu = s.anu ∧
      (removeServer i s).dte = s.dte ∧ (removeServer i s).mgu = s.mgu ∧
      (removeServer i s).resetHeld = s.resetHeld ∧ (removeServer i s).serial = s.serial ∧
      (removeServer i s).pending = s.pending := by
  unfold removeServer
  repeat' split
  all_goals simp

@[simp] theorem evictIfDue_frame (s : State) (i : Nat) :
    (evictIfDue i s).rcu = s.rcu ∧ (evictIfDue i s).dse = s.dse ∧ (evictIfDue i s).fcl = s.fcl ∧
      (evictIfDue i s).anu = s.anu ∧ (evictIfDue i s).dte = s.dte ∧
      (evictIfDue i s).mgu = s.mgu ∧ (evictIfDue i s).resetHeld = s.resetHeld ∧
      (evictIfDue i s).serial = s.serial ∧ (evictIfDue i s).pending = s.pending := by
  unfold evictIfDue
  repeat' split
  all_goals simp

@[simp] theorem silenceIfDue_frame (s : State) (i : Nat) :
    (silenceIfDue i s).rcu = s.rcu ∧ (silenceIfDue i s).dse = s.dse ∧
      (silenceIfDue i s).fcl = s.fcl ∧ (silenceIfDue i s).anu = s.anu ∧
      (silenceIfDue i s).dte = s.dte ∧ (silenceIfDue i s).mgu = s.mgu ∧
      (silenceIfDue i s).resetHeld = s.resetHeld ∧ (silenceIfDue i s).serial = s.serial ∧
      (silenceIfDue i s).pending = s.pending := by
  unfold silenceIfDue
  dsimp only
  repeat' split
  all_goals simp

@[simp] theorem dateCommand_frame (s : State) (a : Arriving) (q : BitVec 3) :
    (dateCommand a q s).rcu = s.rcu ∧ (dateCommand a q s).dse = s.dse ∧
      (dateCommand a q s).fcl = s.fcl ∧ (dateCommand a q s).anu = s.anu ∧
      (dateCommand a q s).dtr = s.dtr ∧ (dateCommand a q s).mgu = s.mgu ∧
      (dateCommand a q s).resetHeld = s.resetHeld ∧ (dateCommand a q s).serial = s.serial ∧
      (dateCommand a q s).pending = s.pending := by
  unfold dateCommand
  dsimp only
  repeat' split
  all_goals simp

@[simp] theorem takeCommand_frame (s : State) (a : Arriving) :
    (takeCommand a s).rcu = s.rcu ∧ (takeCommand a s).dse = s.dse ∧
      (takeCommand a s).anu = s.anu ∧ (takeCommand a s).dtr = s.dtr ∧
      (takeCommand a s).mgu = s.mgu ∧ (takeCommand a s).resetHeld = s.resetHeld ∧
      (takeCommand a s).serial = s.serial ∧ (takeCommand a s).pending = s.pending := by
  unfold takeCommand
  dsimp only
  repeat' split
  all_goals simp

@[simp] theorem takeCompletion_frame (s : State) (a : Arriving) :
    (takeCompletion a s).rcu = s.rcu ∧ (takeCompletion a s).dse = s.dse ∧
      (takeCompletion a s).anu = s.anu ∧ (takeCompletion a s).dtr = s.dtr ∧
      (takeCompletion a s).mgu = s.mgu ∧ (takeCompletion a s).resetHeld = s.resetHeld ∧
      (takeCompletion a s).serial = s.serial ∧ (takeCompletion a s).pending = s.pending := by
  unfold takeCompletion
  dsimp only
  repeat' split
  all_goals simp

@[simp] theorem freeDue_frame (s : State) (d : Uptime) :
    (freeDue d s).rcu = s.rcu ∧ (freeDue d s).dse = s.dse ∧ (freeDue d s).fcl = s.fcl ∧
      (freeDue d s).anu = s.anu ∧ (freeDue d s).dtr = s.dtr ∧ (freeDue d s).wru = s.wru ∧
      (freeDue d s).rrg = s.rrg ∧ (freeDue d s).rpe = s.rpe ∧ (freeDue d s).egm = s.egm ∧
      (freeDue d s).mgu = s.mgu ∧ (freeDue d s).resetHeld = s.resetHeld ∧
      (freeDue d s).serial = s.serial ∧ (freeDue d s).pending = s.pending := by
  exact ⟨rfl, rfl, rfl, rfl, rfl, rfl, rfl, rfl, rfl, rfl, rfl, rfl, rfl⟩

@[simp] theorem claimSlot_frame (s : State) (n : Nat) (p : Port) (a : Arriving) :
    (claimSlot n p a s).rcu = s.rcu ∧ (claimSlot n p a s).dse = s.dse ∧
      (claimSlot n p a s).fcl = s.fcl ∧ (claimSlot n p a s).dtr = s.dtr ∧
      (claimSlot n p a s).wru = s.wru ∧ (claimSlot n p a s).dte = s.dte ∧
      (claimSlot n p a s).rrg = s.rrg ∧ (claimSlot n p a s).rpe = s.rpe ∧
      (claimSlot n p a s).egm = s.egm ∧ (claimSlot n p a s).mgu = s.mgu ∧
      (claimSlot n p a s).resetHeld = s.resetHeld ∧ (claimSlot n p a s).serial = s.serial ∧
      (claimSlot n p a s).pending = s.pending := by
  exact ⟨rfl, rfl, rfl, rfl, rfl, rfl, rfl, rfl, rfl, rfl, rfl, rfl, rfl⟩

@[simp] theorem completeSlot_frame (s : State) (n : Nat) (a : Address) :
    (completeSlot n a s).rcu = s.rcu ∧ (completeSlot n a s).dse = s.dse ∧
      (completeSlot n a s).fcl = s.fcl ∧ (completeSlot n a s).dtr = s.dtr ∧
      (completeSlot n a s).wru = s.wru ∧ (completeSlot n a s).dte = s.dte ∧
      (completeSlot n a s).rrg = s.rrg ∧ (completeSlot n a s).rpe = s.rpe ∧
      (completeSlot n a s).egm = s.egm ∧ (completeSlot n a s).mgu = s.mgu ∧
      (completeSlot n a s).resetHeld = s.resetHeld ∧ (completeSlot n a s).serial = s.serial ∧
      (completeSlot n a s).pending = s.pending := by
  unfold completeSlot
  repeat' split
  all_goals simp

@[simp] theorem chargeOverrun_frame (s : State) (m : Nat) (p : Port) :
    (chargeOverrun m p s).rcu = s.rcu ∧ (chargeOverrun m p s).dse = s.dse ∧
      (chargeOverrun m p s).dtr = s.dtr ∧ (chargeOverrun m p s).wru = s.wru ∧
      (chargeOverrun m p s).dte = s.dte ∧ (chargeOverrun m p s).rrg = s.rrg ∧
      (chargeOverrun m p s).rpe = s.rpe ∧ (chargeOverrun m p s).egm = s.egm ∧
      (chargeOverrun m p s).mgu = s.mgu ∧ (chargeOverrun m p s).resetHeld = s.resetHeld ∧
      (chargeOverrun m p s).serial = s.serial ∧ (chargeOverrun m p s).pending = s.pending := by
  exact ⟨rfl, rfl, rfl, rfl, rfl, rfl, rfl, rfl, rfl, rfl, rfl, rfl⟩

@[simp] theorem trackArrived_frame (s : State) (a : Arriving) :
    (trackArrived a s).rcu = s.rcu ∧ (trackArrived a s).dse = s.dse ∧
      (trackArrived a s).fcl = s.fcl ∧ (trackArrived a s).anu = s.anu ∧
      (trackArrived a s).dte = s.dte ∧ (trackArrived a s).mgu = s.mgu ∧
      (trackArrived a s).resetHeld = s.resetHeld ∧ (trackArrived a s).serial = s.serial ∧
      (trackArrived a s).pending = s.pending := by
  unfold trackArrived
  all_goals simp

@[simp] theorem takeQuery_frame (s : State) (p : Port) (a : Arriving) :
    (takeQuery p a s).rcu = s.rcu ∧ (takeQuery p a s).dse = s.dse ∧
      (takeQuery p a s).dte = s.dte ∧ (takeQuery p a s).mgu = s.mgu ∧
      (takeQuery p a s).resetHeld = s.resetHeld ∧ (takeQuery p a s).serial = s.serial ∧
      (takeQuery p a s).pending = s.pending := by
  unfold takeQuery
  dsimp only
  repeat' split
  all_goals simp

@[simp] theorem putOnLine_frame (s : State) (p : Port) (src : Source) (o : List Byte) :
    (putOnLine p src o s).rcu = s.rcu ∧ (putOnLine p src o s).dse = s.dse ∧
      (putOnLine p src o s).fcl = s.fcl ∧ (putOnLine p src o s).anu = s.anu ∧
      (putOnLine p src o s).dtr = s.dtr ∧ (putOnLine p src o s).wru = s.wru ∧
      (putOnLine p src o s).dte = s.dte ∧ (putOnLine p src o s).rrg = s.rrg ∧
      (putOnLine p src o s).rpe = s.rpe ∧ (putOnLine p src o s).mgu = s.mgu ∧
      (putOnLine p src o s).resetHeld = s.resetHeld ∧ (putOnLine p src o s).serial = s.serial ∧
      (putOnLine p src o s).pending = s.pending := by
  exact ⟨rfl, rfl, rfl, rfl, rfl, rfl, rfl, rfl, rfl, rfl, rfl, rfl, rfl⟩

@[simp] theorem startPass_frame (s : State) (p : Port) :
    (startPass p s).rcu = s.rcu ∧ (startPass p s).dse = s.dse ∧ (startPass p s).fcl = s.fcl ∧
      (startPass p s).anu = s.anu ∧ (startPass p s).dtr = s.dtr ∧ (startPass p s).wru = s.wru ∧
      (startPass p s).dte = s.dte ∧ (startPass p s).rrg = s.rrg ∧ (startPass p s).rpe = s.rpe ∧
      (startPass p s).mgu = s.mgu ∧ (startPass p s).resetHeld = s.resetHeld ∧
      (startPass p s).serial = s.serial ∧ (startPass p s).pending = s.pending := by
  unfold startPass
  dsimp only
  repeat' split
  all_goals simp

@[simp] theorem startAnswer_frame (s : State) (p : Port) (n : Nat) :
    (startAnswer p n s).rcu = s.rcu ∧ (startAnswer p n s).dse = s.dse ∧
      (startAnswer p n s).fcl = s.fcl ∧ (startAnswer p n s).dtr = s.dtr ∧
      (startAnswer p n s).wru = s.wru ∧ (startAnswer p n s).dte = s.dte ∧
      (startAnswer p n s).rrg = s.rrg ∧ (startAnswer p n s).rpe = s.rpe ∧
      (startAnswer p n s).mgu = s.mgu ∧ (startAnswer p n s).resetHeld = s.resetHeld ∧
      (startAnswer p n s).serial = s.serial ∧ (startAnswer p n s).pending = s.pending := by
  unfold startAnswer
  dsimp only
  repeat' split
  all_goals simp

@[simp] theorem startProbe_frame (s : State) (p : Port) :
    (startProbe p s).rcu = s.rcu ∧ (startProbe p s).fcl = s.fcl ∧ (startProbe p s).anu = s.anu ∧
      (startProbe p s).dtr = s.dtr ∧ (startProbe p s).wru = s.wru ∧
      (startProbe p s).dte = s.dte ∧ (startProbe p s).rrg = s.rrg ∧
      (startProbe p s).rpe = s.rpe ∧ (startProbe p s).mgu = s.mgu ∧
      (startProbe p s).resetHeld = s.resetHeld ∧ (startProbe p s).serial = s.serial ∧
      (startProbe p s).pending = s.pending := by
  unfold startProbe
  dsimp only
  repeat' split
  all_goals simp

@[simp] theorem startResponse_frame (s : State) (p : Port) :
    (startResponse p s).rcu = s.rcu ∧ (startResponse p s).dse = s.dse ∧
      (startResponse p s).fcl = s.fcl ∧ (startResponse p s).anu = s.anu ∧
      (startResponse p s).dtr = s.dtr ∧ (startResponse p s).wru = s.wru ∧
      (startResponse p s).dte = s.dte ∧ (startResponse p s).rrg = s.rrg ∧
      (startResponse p s).rpe = s.rpe ∧ (startResponse p s).mgu = s.mgu ∧
      (startResponse p s).resetHeld = s.resetHeld ∧ (startResponse p s).serial = s.serial ∧
      (startResponse p s).pending = s.pending := by
  unfold startResponse
  repeat' split
  all_goals simp

@[simp] theorem startAlert_frame (s : State) (p : Port) :
    (startAlert p s).rcu = s.rcu ∧ (startAlert p s).dse = s.dse ∧ (startAlert p s).fcl = s.fcl ∧
      (startAlert p s).anu = s.anu ∧ (startAlert p s).dtr = s.dtr ∧
      (startAlert p s).dte = s.dte ∧ (startAlert p s).rrg = s.rrg ∧
      (startAlert p s).rpe = s.rpe ∧ (startAlert p s).mgu = s.mgu ∧
      (startAlert p s).resetHeld = s.resetHeld ∧ (startAlert p s).serial = s.serial ∧
      (startAlert p s).pending = s.pending := by
  unfold startAlert
  dsimp only
  repeat' split
  all_goals simp

@[simp] theorem startReport_frame (s : State) (p : Port) :
    (startReport p s).rcu = s.rcu ∧ (startReport p s).dse = s.dse ∧
      (startReport p s).fcl = s.fcl ∧ (startReport p s).anu = s.anu ∧
      (startReport p s).dtr = s.dtr ∧ (startReport p s).wru = s.wru ∧
      (startReport p s).dte = s.dte ∧ (startReport p s).rrg = s.rrg ∧
      (startReport p s).mgu = s.mgu ∧ (startReport p s).resetHeld = s.resetHeld ∧
      (startReport p s).serial = s.serial ∧ (startReport p s).pending = s.pending := by
  exact ⟨rfl, rfl, rfl, rfl, rfl, rfl, rfl, rfl, rfl, rfl, rfl, rfl⟩

@[simp] theorem startEntry_frame (s : State) (p : Port) (src : Source) :
    (startEntry p src s).rcu = s.rcu ∧ (startEntry p src s).fcl = s.fcl ∧
      (startEntry p src s).dtr = s.dtr ∧ (startEntry p src s).dte = s.dte ∧
      (startEntry p src s).rrg = s.rrg ∧ (startEntry p src s).mgu = s.mgu ∧
      (startEntry p src s).resetHeld = s.resetHeld ∧ (startEntry p src s).serial = s.serial ∧
      (startEntry p src s).pending = s.pending := by
  unfold startEntry
  repeat' split
  all_goals simp

@[simp] theorem takeBoundary_frame (s : State) (p : Port) :
    (takeBoundary p s).rcu = s.rcu ∧ (takeBoundary p s).fcl = s.fcl ∧
      (takeBoundary p s).dtr = s.dtr ∧ (takeBoundary p s).dte = s.dte ∧
      (takeBoundary p s).rrg = s.rrg ∧ (takeBoundary p s).mgu = s.mgu ∧
      (takeBoundary p s).resetHeld = s.resetHeld ∧ (takeBoundary p s).serial = s.serial ∧
      (takeBoundary p s).pending = s.pending := by
  unfold takeBoundary
  repeat' split
  all_goals simp

@[simp] theorem endPass_frame (s : State) (p : Port) (f : PassFrame) (r : Option (BitVec 48)) :
    (endPass p f r s).rcu = s.rcu ∧ (endPass p f r s).dse = s.dse ∧
      (endPass p f r s).fcl = s.fcl ∧ (endPass p f r s).anu = s.anu ∧
      (endPass p f r s).dtr = s.dtr ∧ (endPass p f r s).wru = s.wru ∧
      (endPass p f r s).dte = s.dte ∧ (endPass p f r s).rrg = s.rrg ∧
      (endPass p f r s).rpe = s.rpe ∧ (endPass p f r s).mgu = s.mgu ∧
      (endPass p f r s).resetHeld = s.resetHeld ∧ (endPass p f r s).serial = s.serial ∧
      (endPass p f r s).pending = s.pending := by
  exact ⟨rfl, rfl, rfl, rfl, rfl, rfl, rfl, rfl, rfl, rfl, rfl, rfl, rfl⟩

@[simp] theorem alertEnded_frame (s : State) (p : Port) :
    (alertEnded p s).rcu = s.rcu ∧ (alertEnded p s).dse = s.dse ∧ (alertEnded p s).fcl = s.fcl ∧
      (alertEnded p s).anu = s.anu ∧ (alertEnded p s).dtr = s.dtr ∧
      (alertEnded p s).dte = s.dte ∧ (alertEnded p s).rrg = s.rrg ∧
      (alertEnded p s).rpe = s.rpe ∧ (alertEnded p s).egm = s.egm ∧
      (alertEnded p s).mgu = s.mgu ∧ (alertEnded p s).resetHeld = s.resetHeld ∧
      (alertEnded p s).serial = s.serial ∧ (alertEnded p s).pending = s.pending := by
  unfold alertEnded
  dsimp only
  repeat' split
  all_goals simp

@[simp] theorem reportEnded_frame (s : State) :
    (reportEnded s).rcu = s.rcu ∧ (reportEnded s).dse = s.dse ∧ (reportEnded s).fcl = s.fcl ∧
      (reportEnded s).anu = s.anu ∧ (reportEnded s).dtr = s.dtr ∧ (reportEnded s).wru = s.wru ∧
      (reportEnded s).dte = s.dte ∧ (reportEnded s).mgu = s.mgu ∧
      (reportEnded s).resetHeld = s.resetHeld ∧ (reportEnded s).serial = s.serial ∧
      (reportEnded s).pending = s.pending := by
  unfold reportEnded
  dsimp only
  all_goals simp

@[simp] theorem reportDropped_frame (s : State) :
    (reportDropped s).rcu = s.rcu ∧ (reportDropped s).dse = s.dse ∧
      (reportDropped s).fcl = s.fcl ∧ (reportDropped s).anu = s.anu ∧
      (reportDropped s).dtr = s.dtr ∧ (reportDropped s).wru = s.wru ∧
      (reportDropped s).dte = s.dte ∧ (reportDropped s).egm = s.egm ∧
      (reportDropped s).mgu = s.mgu ∧ (reportDropped s).resetHeld = s.resetHeld ∧
      (reportDropped s).serial = s.serial ∧ (reportDropped s).pending = s.pending := by
  unfold reportDropped
  dsimp only
  all_goals simp

@[simp] theorem responseDropped_frame (s : State) :
    (responseDropped s).rcu = s.rcu ∧ (responseDropped s).dse = s.dse ∧
      (responseDropped s).fcl = s.fcl ∧ (responseDropped s).anu = s.anu ∧
      (responseDropped s).dtr = s.dtr ∧ (responseDropped s).wru = s.wru ∧
      (responseDropped s).dte = s.dte ∧ (responseDropped s).rrg = s.rrg ∧
      (responseDropped s).rpe = s.rpe ∧ (responseDropped s).egm = s.egm ∧
      (responseDropped s).resetHeld = s.resetHeld ∧ (responseDropped s).serial = s.serial ∧
      (responseDropped s).pending = s.pending := by
  exact ⟨rfl, rfl, rfl, rfl, rfl, rfl, rfl, rfl, rfl, rfl, rfl, rfl, rfl⟩

@[simp] theorem alertDropped_frame (s : State) (p : Port) :
    (alertDropped p s).rcu = s.rcu ∧ (alertDropped p s).dse = s.dse ∧
      (alertDropped p s).fcl = s.fcl ∧ (alertDropped p s).anu = s.anu ∧
      (alertDropped p s).dtr = s.dtr ∧ (alertDropped p s).dte = s.dte ∧
      (alertDropped p s).rrg = s.rrg ∧ (alertDropped p s).rpe = s.rpe ∧
      (alertDropped p s).egm = s.egm ∧ (alertDropped p s).mgu = s.mgu ∧
      (alertDropped p s).resetHeld = s.resetHeld ∧ (alertDropped p s).serial = s.serial ∧
      (alertDropped p s).pending = s.pending := by
  unfold alertDropped
  dsimp only
  repeat' split
  all_goals simp

@[simp] theorem pinServer_frame (s : State) (i : Nat) (a : Address) (l : BitVec 16) (e : EdgeSelect) :
    (pinServer i a l e s).rcu = s.rcu ∧ (pinServer i a l e s).dse = s.dse ∧
      (pinServer i a l e s).fcl = s.fcl ∧ (pinServer i a l e s).anu = s.anu ∧
      (pinServer i a l e s).dte = s.dte ∧ (pinServer i a l e s).mgu = s.mgu ∧
      (pinServer i a l e s).resetHeld = s.resetHeld ∧ (pinServer i a l e s).serial = s.serial ∧
      (pinServer i a l e s).pending = s.pending := by
  unfold pinServer
  dsimp only
  all_goals simp

@[simp] theorem pinWrite_frame (s : State) (i : Nat) (a : Address) (l : BitVec 16) (e : EdgeSelect) :
    (pinWrite i a l e s).rcu = s.rcu ∧ (pinWrite i a l e s).dse = s.dse ∧
      (pinWrite i a l e s).fcl = s.fcl ∧ (pinWrite i a l e s).anu = s.anu ∧
      (pinWrite i a l e s).dte = s.dte ∧ (pinWrite i a l e s).mgu = s.mgu ∧
      (pinWrite i a l e s).resetHeld = s.resetHeld ∧ (pinWrite i a l e s).serial = s.serial ∧
      (pinWrite i a l e s).pending = s.pending := by
  unfold pinWrite
  repeat' split
  all_goals simp

@[simp] theorem silentWarnEdge_frame (s : State) (b : Bool) (i : Nat) :
    (silentWarnEdge b s i).rcu = s.rcu ∧ (silentWarnEdge b s i).dse = s.dse ∧
      (silentWarnEdge b s i).fcl = s.fcl ∧ (silentWarnEdge b s i).anu = s.anu ∧
      (silentWarnEdge b s i).dtr = s.dtr ∧ (silentWarnEdge b s i).dte = s.dte ∧
      (silentWarnEdge b s i).rrg = s.rrg ∧ (silentWarnEdge b s i).rpe = s.rpe ∧
      (silentWarnEdge b s i).egm = s.egm ∧ (silentWarnEdge b s i).mgu = s.mgu ∧
      (silentWarnEdge b s i).resetHeld = s.resetHeld ∧ (silentWarnEdge b s i).serial = s.serial ∧
      (silentWarnEdge b s i).pending = s.pending := by
  unfold silentWarnEdge
  repeat' split
  all_goals simp

@[simp] theorem marksChanged_frame (s : State) :
    (marksChanged s).rcu = s.rcu ∧ (marksChanged s).dse = s.dse ∧ (marksChanged s).fcl = s.fcl ∧
      (marksChanged s).anu = s.anu ∧ (marksChanged s).dtr = s.dtr ∧
      (marksChanged s).wru = s.wru ∧ (marksChanged s).dte = s.dte ∧
      (marksChanged s).mgu = s.mgu ∧ (marksChanged s).resetHeld = s.resetHeld ∧
      (marksChanged s).serial = s.serial ∧ (marksChanged s).pending = s.pending := by
  unfold marksChanged
  dsimp only
  repeat' split
  all_goals simp

@[simp] theorem collectorChanged_frame (s : State) :
    (collectorChanged s).rcu = s.rcu ∧ (collectorChanged s).dse = s.dse ∧
      (collectorChanged s).fcl = s.fcl ∧ (collectorChanged s).anu = s.anu ∧
      (collectorChanged s).dtr = s.dtr ∧ (collectorChanged s).dte = s.dte ∧
      (collectorChanged s).rrg = s.rrg ∧ (collectorChanged s).mgu = s.mgu ∧
      (collectorChanged s).resetHeld = s.resetHeld ∧ (collectorChanged s).serial = s.serial ∧
      (collectorChanged s).pending = s.pending := by
  unfold collectorChanged
  all_goals simp

@[simp] theorem resetServer_frame (s : State) (i : Nat) :
    (resetServer s i).rcu = s.rcu ∧ (resetServer s i).dse = s.dse ∧
      (resetServer s i).fcl = s.fcl ∧ (resetServer s i).anu = s.anu ∧
      (resetServer s i).dte = s.dte ∧ (resetServer s i).mgu = s.mgu ∧
      (resetServer s i).resetHeld = s.resetHeld ∧ (resetServer s i).serial = s.serial ∧
      (resetServer s i).pending = s.pending := by
  unfold resetServer
  dsimp only
  repeat' split
  all_goals simp

@[simp] theorem startDiscipline_frame (s : State) :
    (startDiscipline s).rcu = s.rcu ∧ (startDiscipline s).fcl = s.fcl ∧
      (startDiscipline s).anu = s.anu ∧ (startDiscipline s).dtr = s.dtr ∧
      (startDiscipline s).dte = s.dte ∧ (startDiscipline s).mgu = s.mgu ∧
      (startDiscipline s).resetHeld = s.resetHeld ∧ (startDiscipline s).serial = s.serial ∧
      (startDiscipline s).pending = s.pending := by
  unfold startDiscipline
  dsimp only
  all_goals simp

@[simp] theorem stopDiscipline_frame (s : State) :
    (stopDiscipline s).fcl = s.fcl ∧ (stopDiscipline s).anu = s.anu ∧
      (stopDiscipline s).dtr = s.dtr ∧ (stopDiscipline s).dte = s.dte ∧
      (stopDiscipline s).mgu = s.mgu ∧ (stopDiscipline s).resetHeld = s.resetHeld ∧
      (stopDiscipline s).serial = s.serial ∧ (stopDiscipline s).pending = s.pending := by
  unfold stopDiscipline
  dsimp only
  all_goals simp

@[simp] theorem queueResponse_frame (s : State) (p : Port) (o : List Byte) (b : Bool) :
    (queueResponse p o b s).rcu = s.rcu ∧ (queueResponse p o b s).dse = s.dse ∧
      (queueResponse p o b s).fcl = s.fcl ∧ (queueResponse p o b s).anu = s.anu ∧
      (queueResponse p o b s).dtr = s.dtr ∧ (queueResponse p o b s).wru = s.wru ∧
      (queueResponse p o b s).dte = s.dte ∧ (queueResponse p o b s).rrg = s.rrg ∧
      (queueResponse p o b s).rpe = s.rpe ∧ (queueResponse p o b s).resetHeld = s.resetHeld ∧
      (queueResponse p o b s).serial = s.serial ∧ (queueResponse p o b s).pending = s.pending := by
  unfold queueResponse
  dsimp only
  repeat' split
  all_goals simp

end Sys2Proof.Machine
end

