-- ==== Sys2Proof/Laws/Ops.lean ====
section
/-! SUPPORT. What each shared operation can do, said once: latching, offering a record, building a report
or an alert, changing the discipline state. -/

namespace Sys2Proof.Machine

/-! ### Numbers -/

theorem clampInt_mem (lo hi v : Int) (h : lo ≤ hi) : lo ≤ clampInt lo hi v ∧ clampInt lo hi v ≤ hi := by
  unfold clampInt
  omega

theorem clampInt_of_mem (lo hi v : Int) (h : lo ≤ v) (h' : v ≤ hi) : clampInt lo hi v = v := by
  unfold clampInt
  omega

theorem clampNat_mem (lo hi v : Nat) (h : lo ≤ hi) : lo ≤ clampNat lo hi v ∧ clampNat lo hi v ≤ hi := by
  unfold clampNat
  omega

theorem bump_toNat (c : Counter) : (bump c).toNat = min (c.toNat + 1) 4294967295 := by
  unfold bump addCount saturate32
  rw [BitVec.toNat_ofNat]
  omega

/-! ### The check sequence and the course of a frame -/

@[simp] theorem checkSequence_length (l : List Byte) : (checkSequence l).length = 4 := rfl

@[simp] theorem forcedBadSequence_length (l : List Byte) : (forcedBadSequence l).length = 4 := rfl

/-- A frame that leaves with a computed check sequence has a good one. -/
@[simp] theorem checkIsGood_append (l : List Byte) : checkIsGood (l ++ checkSequence l) = true := by
  simp [checkIsGood]

/-- A forced bad check sequence is never the one computed. -/
theorem checkIsGood_forcedBad (l : List Byte) : checkIsGood (l ++ forcedBadSequence l) = false := by
  have h : forcedBadSequence l ≠ checkSequence l := by
    intro h
    have h0 := congrArg (fun x => (x.getD 0 0).getLsbD 0) h
    simp [forcedBadSequence, checkSequence] at h0
  simp [checkIsGood, h]

/-- What FCL's decision does: nothing until the octets tell the course, then the receive buffer for a frame for
the part and the other port's buffer for any other (R57, R187). -/
theorem decideCourse_cases (p : Port) (s : State) :
    decideCourse p s = s ∨
      ∃ a, s.arriving p = some a ∧ a.course = .undecided ∧
        ((recognise a = some true ∧ decideCourse p s = s.setArriving p
            (some { a with course := .forPart, octets := a.octets.take Config.frameRoom })) ∨
          (recognise a = some false ∧ decideCourse p s = passOn p a s)) := by
  unfold decideCourse
  split
  · exact .inl rfl
  · next a h =>
    split
    · next hc =>
      split
      · exact .inl rfl
      · next hr => exact .inr ⟨a, h, hc, .inl ⟨hr, rfl⟩⟩
      · next hr => exact .inr ⟨a, h, hc, .inr ⟨hr, rfl⟩⟩
    · exact .inl rfl

/-! ### Bits of the pending and condition sets -/

theorem getLsbD_putBit (v : BitVec 54) (b i : Nat) (on : Bool) (h : b < 54) :
    (putBit v b on).getLsbD i = if i = b then on else v.getLsbD i := by
  unfold putBit
  by_cases hi : i < 54
  · cases on <;> by_cases hb : i = b <;>
      simp [hi, hb, h]
  · have hne : i ≠ b := by omega
    simp [hne, BitVec.getLsbD_of_ge v i (by omega)]
    cases on <;> simp [BitVec.getLsbD_of_ge _ i (show 54 ≤ i by omega)]

/-! ### Latching -/

/-- Latching leaves the state, or sets the bit, decides the line, and may set alert-due. -/
theorem latch_cases (b : Nat) (s : State) :
    (s.wru.pending.getLsbD b = true ∧ latch b s = s) ∨
      (s.wru.pending.getLsbD b = false ∧
        latch b s = { s with wru := { s.wru with
          pending := putBit s.wru.pending b true
          alertLine := lineAsserted (putBit s.wru.pending b true) s.wru.lineMask
          alertDue := s.wru.alertDue || s.wru.frameMask.getLsbD b
          testDue := s.wru.testDue || (s.wru.frameMask.getLsbD b && !s.wru.alertDue) } }) := by
  unfold latch
  by_cases h : s.wru.pending.getLsbD b = true
  · exact .inl ⟨h, by simp [h]⟩
  · exact .inr ⟨by simpa using h, by simp [h]⟩

@[simp] theorem latch_condition (b : Nat) (s : State) :
    (latch b s).wru.condition = s.wru.condition := by
  rcases latch_cases b s with ⟨_, h⟩ | ⟨_, h⟩ <;> simp [h]

@[simp] theorem latch_lineMask (b : Nat) (s : State) : (latch b s).wru.lineMask = s.wru.lineMask := by
  rcases latch_cases b s with ⟨_, h⟩ | ⟨_, h⟩ <;> simp [h]

@[simp] theorem latch_frameMask (b : Nat) (s : State) :
    (latch b s).wru.frameMask = s.wru.frameMask := by
  rcases latch_cases b s with ⟨_, h⟩ | ⟨_, h⟩ <;> simp [h]

@[simp] theorem latch_alert (b : Nat) (s : State) : (latch b s).wru.alert = s.wru.alert := by
  rcases latch_cases b s with ⟨_, h⟩ | ⟨_, h⟩ <;> simp [h]

theorem latch_sets (b : Nat) (s : State) (hb : b < 54) : (latch b s).wru.pending.getLsbD b = true := by
  rcases latch_cases b s with ⟨h', h⟩ | ⟨_, h⟩
  · rw [h]; exact h'
  · simp [h, getLsbD_putBit _ _ _ _ hb]

theorem latch_keeps (b i : Nat) (s : State) (hb : b < 54) (hi : i ≠ b) :
    (latch b s).wru.pending.getLsbD i = s.wru.pending.getLsbD i := by
  rcases latch_cases b s with ⟨_, h⟩ | ⟨_, h⟩
  · rw [h]
  · simp [h, getLsbD_putBit _ _ _ _ hb, hi]

@[simp] theorem giveEdge_condition (b : Nat) (e : Edge) (sel : EdgeSelect) (s : State) :
    (giveEdge b e sel s).wru.condition = putBit s.wru.condition b (e == .enter) := by
  unfold giveEdge
  split <;> simp

@[simp] theorem giveEdge_lineMask (b : Nat) (e : Edge) (sel : EdgeSelect) (s : State) :
    (giveEdge b e sel s).wru.lineMask = s.wru.lineMask := by
  unfold giveEdge
  split <;> simp

@[simp] theorem giveEdge_alert (b : Nat) (e : Edge) (sel : EdgeSelect) (s : State) :
    (giveEdge b e sel s).wru.alert = s.wru.alert := by
  unfold giveEdge
  split <;> simp

/-- After a change of a condition its bit of the condition set is the condition, if it was before. -/
theorem giveChange_condition (b i : Nat) (before now : Bool) (sel : EdgeSelect) (s : State)
    (hb : b < 54) (h : s.wru.condition.getLsbD b = before) :
    (giveChange b before now sel s).wru.condition.getLsbD i =
      if i = b then now else s.wru.condition.getLsbD i := by
  unfold giveChange
  by_cases hn : before = now
  · by_cases hi : i = b <;> simp [hn, hi, h]
  · cases now <;> by_cases hi : i = b <;> simp [hn, hi, getLsbD_putBit _ _ _ _ hb]

/-! ### Reports -/

theorem dueCheck_cases (s : State) :
    (reportCanBuild s = false ∧ dueCheck s = s) ∨
      (reportCanBuild s = true ∧ dueCheck s = buildReport s) := by
  unfold dueCheck
  by_cases h : reportCanBuild s = true
  · exact .inr ⟨h, by simp [h]⟩
  · exact .inl ⟨by simpa using h, by simp [h]⟩

@[simp] theorem dueCheck_link (s : State) (p : Port) :
    ((dueCheck s).port p).link = (s.port p).link := by
  rcases dueCheck_cases s with ⟨_, h⟩ | ⟨_, h⟩
  · rw [h]
  · rw [h]
    simp only [buildReport, pushEntry]
    cases p <;> cases hc : s.mgu.station.collectorPort <;> rfl

/-- A report that is built is in flight with the oldest records (R181). -/
theorem buildReport_inFlight (s : State) :
    (buildReport s).rpe.inFlight =
      some ⟨false, s.mgu.station.collectorPort, reportSize s, firstSequence s⟩ := rfl

/-! ### Offers -/

/-- An offer is admitted, with pressure decided and the due check made, or refused and RING_LOSS latched
(R165, R166). -/
theorem offer_cases (r : Record) (s : State) :
    (s.rrg.count < classLimit s.rrg r.body ∧
        offer r s = dueCheck (decidePressure { s with rrg := s.rrg.write r })) ∨
      (classLimit s.rrg r.body ≤ s.rrg.count ∧
        offer r s = latch 53 { s with rrg := s.rrg.lose r.body }) := by
  unfold offer
  by_cases h : s.rrg.count < classLimit s.rrg r.body
  · exact .inl ⟨h, by simp [h]⟩
  · exact .inr ⟨by omega, by simp [h]⟩

/-- An offer spends one sequence number (R164). -/
@[simp] theorem offer_seq (r : Record) (s : State) : (offer r s).rrg.seq = s.rrg.seq + 1 := by
  rcases offer_cases r s with ⟨_, h⟩ | ⟨_, h⟩
  · simp [h, decidePressure, Rrg.write]
  · simp [h, Rrg.lose]

@[simp] theorem offer_condition (r : Record) (s : State) :
    (offer r s).wru.condition = s.wru.condition := by
  rcases offer_cases r s with ⟨_, h⟩ | ⟨_, h⟩ <;> simp [h]

@[simp] theorem offer_alert (r : Record) (s : State) : (offer r s).wru.alert = s.wru.alert := by
  rcases offer_cases r s with ⟨_, h⟩ | ⟨_, h⟩ <;> simp [h]

@[simp] theorem offer_link (r : Record) (s : State) (p : Port) :
    ((offer r s).port p).link = (s.port p).link := by
  rcases offer_cases r s with ⟨_, h⟩ | ⟨_, h⟩
  · rw [h, dueCheck_link]; rfl
  · simp [h, State.port]

@[simp] theorem rackNotice_seq (c : RackCause) (old new : DState) (v : Int) (s : State) :
    (rackNotice c old new v s).rrg.seq = s.rrg.seq + 1 := by
  simp [rackNotice]

@[simp] theorem serverNotice_seq (i : Nat) (sv : Server) (old new : Option SState) (c : ServerCause)
    (s : State) : (serverNotice i sv old new c s).rrg.seq = s.rrg.seq + 1 := by
  simp [serverNotice]

@[simp] theorem rackNotice_condition (c : RackCause) (old new : DState) (v : Int) (s : State) :
    (rackNotice c old new v s).wru.condition = s.wru.condition := by
  simp [rackNotice]

@[simp] theorem serverNotice_condition (i : Nat) (sv : Server) (old new : Option SState)
    (c : ServerCause) (s : State) :
    (serverNotice i sv old new c s).wru.condition = s.wru.condition := by
  simp [serverNotice]

/-! ### The discipline state and the rate -/

@[simp] theorem setDState_state (new : DState) (s : State) : (setDState new s).dse.state = new := by
  unfold setDState
  dsimp only
  split
  · assumption
  · simp

theorem recomputeRate_a (s : State) :
    (recomputeRate s).rcu.a = appliedRate (recomputeRate s).rcu.f (recomputeRate s).rcu.s := rfl

theorem recomputeRate_k (s : State) : (recomputeRate s).rcu.k = increment (recomputeRate s).rcu.a := rfl

@[simp] theorem recomputeRate_f (s : State) : (recomputeRate s).rcu.f = s.rcu.f := rfl

@[simp] theorem recomputeRate_s (s : State) : (recomputeRate s).rcu.s = s.rcu.s := rfl

theorem appliedRate_mem (f s : Int) :
    -Config.rateLimit ≤ appliedRate f s ∧ appliedRate f s ≤ Config.rateLimit :=
  clampInt_mem _ _ _ (by decide)

/-! ### Alerts -/

theorem finish_cases (s : State) :
    (s.wru.testDue = false ∧ finish s = s) ∨
      (s.wru.testDue = true ∧ finish s = alertTest { s with wru := { s.wru with testDue := false } }) := by
  unfold finish
  by_cases h : s.wru.testDue = true
  · exact .inr ⟨h, by simp [h]⟩
  · exact .inl ⟨by simpa using h, by simp [h]⟩

theorem alertTest_cases (s : State) :
    (alertCanBuild s = false ∧ alertTest s = s) ∨
      (alertCanBuild s = true ∧ alertTest s = buildAlert s) := by
  unfold alertTest
  by_cases h : alertCanBuild s = true
  · exact .inr ⟨h, by simp [h]⟩
  · exact .inl ⟨by simpa using h, by simp [h]⟩

/-! ### The ring -/

@[simp] theorem decidePressure_held (s : State) : (decidePressure s).rrg.held = s.rrg.held := rfl
@[simp] theorem decidePressure_count (s : State) : (decidePressure s).rrg.count = s.rrg.count := rfl
@[simp] theorem decidePressure_oldest (s : State) : (decidePressure s).rrg.oldest = s.rrg.oldest := rfl
@[simp] theorem decidePressure_next (s : State) : (decidePressure s).rrg.next = s.rrg.next := rfl
@[simp] theorem decidePressure_seq (s : State) : (decidePressure s).rrg.seq = s.rrg.seq := rfl

theorem decidePressure_pressure (s : State) :
    (decidePressure s).rrg.pressure =
      pressureAfter s.rrg.pressure s.rrg.count s.rrg.highMark s.rrg.lowMark := rfl

end Sys2Proof.Machine
end

