-- ==== Sys2Proof/WellFormed.lean ====
section
/-! DEFINITION. Which commands are well-formed. -/

namespace Sys2Proof

/-- A boot read that ended with octets received all 32 of them; any other end is no reply (R213). -/
def BootReply.wellFormed : BootReply → Bool
  | .octets o => o.length == 32
  | .noReply => true

/-- The checks on a command's operands that do not depend on the state. The port, the server index
and the deadline are well-formed by their types. -/
def Instr.wellFormed : Instr → Bool
  | .bootReadEnd reply => reply.wellFormed
  | .hardReset => true
  | .bootReadTimeout => true
  | .oscillatorTick => true
  | .pulseWidthExpiry => true
  | .phaseTimerExpiry => true
  | .frameStart _ _ _ => true
  | .forPartDecision _ _ => true
  | .gtpTransitWalk _ _ => true
  | .passThroughReady _ _ => true
  | .frameEnd _ _ => true
  | .frameBadEnd _ _ => true
  | .queryEnd _ _ => true
  | .echoEnd _ _ => true
  | .probeTimerExpiry => true
  | .growthTimerExpiry => true
  | .storageCommandEnd _ _ => true
  | .storageCompletionEnd _ _ => true
  | .exchangeDeadline _ => true
  | .reportTimerExpiry => true
  | .holdOffExpiry => true
  | .serverSilence _ => true
  | .serverEviction _ => true
  | .frameBoundary _ _ => true
  | .egressEnd _ _ => true
  | .linkLoss _ _ => true
  | .linkUp _ => true
  | .mgmtReqEnd _ _ => true
  | .resetInputRelease => true

end Sys2Proof
end

