-- ==== Sys2Proof/Laws/PerInstr.lean ====
section
/-! SUPPORT. Per-command lemmas: which commands are well-formed. -/

namespace Sys2Proof.Laws

/-- A command is well-formed unless it brings a boot record of other than 32 octets (R213), and no word
spells it. -/
def WellFormedness.Statement (i : Instr) : Prop :=
  (i.wellFormed = true ↔ ∀ o, i = .bootReadEnd (.octets o) → o.length = 32) ∧
    ∀ nbits w, decodeTableWord nbits w ≠ some i

theorem WellFormedness.hardReset : WellFormedness.Statement .hardReset :=
  ⟨⟨fun _ _ h => (nomatch h), fun _ => rfl⟩, fun _ _ h => (nomatch h)⟩

theorem WellFormedness.bootReadEnd (reply : BootReply) : WellFormedness.Statement (.bootReadEnd reply) := by
  refine ⟨?_, fun _ _ h => (nomatch h)⟩
  cases reply with
  | octets o => simp [Instr.wellFormed, BootReply.wellFormed]
  | noReply => simp [Instr.wellFormed, BootReply.wellFormed]

theorem WellFormedness.bootReadTimeout : WellFormedness.Statement .bootReadTimeout :=
  ⟨⟨fun _ _ h => (nomatch h), fun _ => rfl⟩, fun _ _ h => (nomatch h)⟩

theorem WellFormedness.oscillatorTick : WellFormedness.Statement .oscillatorTick :=
  ⟨⟨fun _ _ h => (nomatch h), fun _ => rfl⟩, fun _ _ h => (nomatch h)⟩

theorem WellFormedness.pulseWidthExpiry : WellFormedness.Statement .pulseWidthExpiry :=
  ⟨⟨fun _ _ h => (nomatch h), fun _ => rfl⟩, fun _ _ h => (nomatch h)⟩

theorem WellFormedness.phaseTimerExpiry : WellFormedness.Statement .phaseTimerExpiry :=
  ⟨⟨fun _ _ h => (nomatch h), fun _ => rfl⟩, fun _ _ h => (nomatch h)⟩

theorem WellFormedness.frameStart (p : Port) (flow : Flow) (first : Byte) : WellFormedness.Statement (.frameStart p flow first) :=
  ⟨⟨fun _ _ h => (nomatch h), fun _ => rfl⟩, fun _ _ h => (nomatch h)⟩

theorem WellFormedness.forPartDecision (p : Port) (flow : Flow) : WellFormedness.Statement (.forPartDecision p flow) :=
  ⟨⟨fun _ _ h => (nomatch h), fun _ => rfl⟩, fun _ _ h => (nomatch h)⟩

theorem WellFormedness.gtpTransitWalk (p : Port) (flow : Flow) : WellFormedness.Statement (.gtpTransitWalk p flow) :=
  ⟨⟨fun _ _ h => (nomatch h), fun _ => rfl⟩, fun _ _ h => (nomatch h)⟩

theorem WellFormedness.passThroughReady (p : Port) (flow : Flow) : WellFormedness.Statement (.passThroughReady p flow) :=
  ⟨⟨fun _ _ h => (nomatch h), fun _ => rfl⟩, fun _ _ h => (nomatch h)⟩

theorem WellFormedness.frameEnd (p : Port) (flow : Flow) : WellFormedness.Statement (.frameEnd p flow) :=
  ⟨⟨fun _ _ h => (nomatch h), fun _ => rfl⟩, fun _ _ h => (nomatch h)⟩

theorem WellFormedness.frameBadEnd (p : Port) (flow : Flow) : WellFormedness.Statement (.frameBadEnd p flow) :=
  ⟨⟨fun _ _ h => (nomatch h), fun _ => rfl⟩, fun _ _ h => (nomatch h)⟩

theorem WellFormedness.queryEnd (p : Port) (flow : Flow) : WellFormedness.Statement (.queryEnd p flow) :=
  ⟨⟨fun _ _ h => (nomatch h), fun _ => rfl⟩, fun _ _ h => (nomatch h)⟩

theorem WellFormedness.echoEnd (p : Port) (flow : Flow) : WellFormedness.Statement (.echoEnd p flow) :=
  ⟨⟨fun _ _ h => (nomatch h), fun _ => rfl⟩, fun _ _ h => (nomatch h)⟩

theorem WellFormedness.probeTimerExpiry : WellFormedness.Statement .probeTimerExpiry :=
  ⟨⟨fun _ _ h => (nomatch h), fun _ => rfl⟩, fun _ _ h => (nomatch h)⟩

theorem WellFormedness.growthTimerExpiry : WellFormedness.Statement .growthTimerExpiry :=
  ⟨⟨fun _ _ h => (nomatch h), fun _ => rfl⟩, fun _ _ h => (nomatch h)⟩

theorem WellFormedness.storageCommandEnd (p : Port) (flow : Flow) : WellFormedness.Statement (.storageCommandEnd p flow) :=
  ⟨⟨fun _ _ h => (nomatch h), fun _ => rfl⟩, fun _ _ h => (nomatch h)⟩

theorem WellFormedness.storageCompletionEnd (p : Port) (flow : Flow) : WellFormedness.Statement (.storageCompletionEnd p flow) :=
  ⟨⟨fun _ _ h => (nomatch h), fun _ => rfl⟩, fun _ _ h => (nomatch h)⟩

theorem WellFormedness.exchangeDeadline (deadline : Uptime) : WellFormedness.Statement (.exchangeDeadline deadline) :=
  ⟨⟨fun _ _ h => (nomatch h), fun _ => rfl⟩, fun _ _ h => (nomatch h)⟩

theorem WellFormedness.reportTimerExpiry : WellFormedness.Statement .reportTimerExpiry :=
  ⟨⟨fun _ _ h => (nomatch h), fun _ => rfl⟩, fun _ _ h => (nomatch h)⟩

theorem WellFormedness.holdOffExpiry : WellFormedness.Statement .holdOffExpiry :=
  ⟨⟨fun _ _ h => (nomatch h), fun _ => rfl⟩, fun _ _ h => (nomatch h)⟩

theorem WellFormedness.serverSilence (i : Fin 48) : WellFormedness.Statement (.serverSilence i) :=
  ⟨⟨fun _ _ h => (nomatch h), fun _ => rfl⟩, fun _ _ h => (nomatch h)⟩

theorem WellFormedness.serverEviction (i : Fin 48) : WellFormedness.Statement (.serverEviction i) :=
  ⟨⟨fun _ _ h => (nomatch h), fun _ => rfl⟩, fun _ _ h => (nomatch h)⟩

theorem WellFormedness.frameBoundary (p : Port) (flow : Flow) : WellFormedness.Statement (.frameBoundary p flow) :=
  ⟨⟨fun _ _ h => (nomatch h), fun _ => rfl⟩, fun _ _ h => (nomatch h)⟩

theorem WellFormedness.egressEnd (p : Port) (flow : Flow) : WellFormedness.Statement (.egressEnd p flow) :=
  ⟨⟨fun _ _ h => (nomatch h), fun _ => rfl⟩, fun _ _ h => (nomatch h)⟩

theorem WellFormedness.linkLoss (p : Port) (flow : Flow) : WellFormedness.Statement (.linkLoss p flow) :=
  ⟨⟨fun _ _ h => (nomatch h), fun _ => rfl⟩, fun _ _ h => (nomatch h)⟩

theorem WellFormedness.linkUp (p : Port) : WellFormedness.Statement (.linkUp p) :=
  ⟨⟨fun _ _ h => (nomatch h), fun _ => rfl⟩, fun _ _ h => (nomatch h)⟩

theorem WellFormedness.mgmtReqEnd (p : Port) (flow : Flow) : WellFormedness.Statement (.mgmtReqEnd p flow) :=
  ⟨⟨fun _ _ h => (nomatch h), fun _ => rfl⟩, fun _ _ h => (nomatch h)⟩

theorem WellFormedness.resetInputRelease : WellFormedness.Statement .resetInputRelease :=
  ⟨⟨fun _ _ h => (nomatch h), fun _ => rfl⟩, fun _ _ h => (nomatch h)⟩

end Sys2Proof.Laws
end

