-- ==== Sys2Proof/Tests/Slice0.lean ====
section
/-! SUPPORT. Tests: the refused ill-formed command, the worked cases of the spec, and for each statement
with hypotheses a state and operands that meet them. -/

namespace Sys2Proof.Tests

open Sys2Proof Sys2Proof.Machine Sys2Proof.Safety

/-! ### Form -/

/-- The reply of a read that ended with 31 octets is ill-formed. -/
theorem test_wellFormed_refuses_short_boot_record :
    (Instr.bootReadEnd (.octets (List.replicate 31 0))).wellFormed = false := by decide

/-- The table gives no row any bits, so no word spells a command. -/
theorem test_no_word_spells_a_command : decodeTableWord 32 0x12345678 = none := by decide

/-! ### Small states -/

/-- Lines that carried nothing. -/
def noFlow : Flow := ⟨⟨[], []⟩, ⟨0, 0⟩⟩

/-- The own station address of the worked cases. -/
def ownAddr : Address := 0x029F00001001

/-- The manager address of the worked cases. -/
def managerAddr : Address := 0x029F0000000A

/-- The time server address of the tests. -/
def timeServerAddr : Address := 0x029F00000099

/-- An initiator of section 7.12.1, and a server of chapter 5. -/
def serverA : Address := 0x021A33406E11

/-- The station settings of the worked cases, with a collector and a time server. -/
def station : Station :=
  { own := ownAddr, manager := managerAddr, rackId := 212
    collector := 0x029F0000000C, timeServer := timeServerAddr }

/-- A part after its boot, both links UP, at uptime 8 ms. -/
def booted : State :=
  { State.reset with
    rcu := { time := { sec := 5, ns := 500, frac := 9 }, uptime := 1000000, timeSet := true }
    egm := ⟨{ link := true }, { link := true }⟩
    mgu := { reading := false, station := station }
    resetHeld := false }

/-- The discipline in one state, with these fields. -/
def inState (d : DState) (s : State) : State := { s with dse := { s.dse with state := d } }

/-- A frame of the course `c` whose octets have all arrived in a booted part. -/
def frameOf (c : Course) (octets : List Byte) (s : State) : Arriving :=
  { ingress := { stamp := s.rcu.time.stamp, uptime := s.rcu.uptime, epoch := s.rcu.epoch
                 quality := quality s }
    settings := frameSettings s
    transparent := false
    admission := .room
    course := c
    octets := octets
    count := octets.length }

/-- The state with a frame arriving on a port. -/
def receiving (p : Port) (a : Arriving) (s : State) : State := s.setArriving p (some a)

/-- The state with a frame in pass-through arriving on a port: the other port's buffer holds its copy. -/
def passing (p : Port) (a : Arriving) (s : State) : State :=
  let e := s.port p.other
  (receiving p a s).setPort p.other
    { e with buffer := [{ octets := a.octets, ingressUptime := a.ingress.uptime }] }

/-- The state with one origination queue entry and what it stands for in egress on port U. -/
def sendingOwn (src : Source) (octets : List Byte) (s : State) : State :=
  s.setPort .u { s.port .u with
    queue := [{ source := src, inEgress := true }]
    egress := some (.own src octets octets.length) }

/-- A whole frame: these octets and their check sequence. -/
def whole (o : List Byte) : List Byte := o ++ checkSequence o

/-- A check on the next state. -/
def after (o : Host.Outcome State Fault Refusal) (f : State → Bool) : Bool :=
  match o with
  | .next t => f t
  | .fault _ => false
  | .refused _ => false

/-! ### The worked cases of the spec -/

/-- The boot record of 11.9.1. -/
def bootRecord : List Byte :=
  [0x47, 0x48, 0x01, 0x02, 0x9F, 0x00, 0x00, 0x10, 0x01, 0x02, 0x9F, 0x00, 0x00, 0x00, 0x0A,
    0x00, 0xD4, 0x9C, 0x5E, 0x9C, 0x5F, 0x04, 0xB6, 0, 0, 0, 0, 0, 0, 0, 0, 0]

/-- A part whose read of the boot record runs. -/
def reading : State :=
  { State.reset with resetHeld := false, mgu := { State.reset.mgu with readSince := some 0 } }

/-- 11.9.1: the settings of the worked boot record. -/
theorem test_boot_record :
    after (exec (.bootReadEnd (.octets bootRecord)) reading) (fun t =>
      t.mgu.station.own == 0x029F00001001 && t.mgu.station.manager == 0x029F0000000A &&
        t.mgu.station.rackId == 212 && !t.mgu.bootFault && !t.mgu.reading) = true := by decide

/-- 11.9.1: with one octet of the manager address read differently the defaults are taken. -/
theorem test_boot_record_damaged :
    after (exec (.bootReadEnd (.octets (bootRecord.set 14 0x0B))) reading) (fun t =>
      t.mgu.station.own == 0 && t.mgu.bootFault && !t.mgu.reading) = true := by decide

/-- 1.5, an ingress stamp with borrow. -/
theorem test_ingress_stamp_with_borrow :
    let s : State := { booted with rcu := { booted.rcu with
      time := { sec := 12, ns := 100, frac := 3000000000 }
      uptime := 9400000000
      epoch := 5
      ingressComp := ⟨0, 180⟩ } }
    after (exec (.frameStart .k noFlow 0x02) s) (fun t =>
      (t.arriving .k).map (fun a => (a.ingress.stamp, a.ingress.uptime, a.ingress.epoch)) ==
        some ({ sec := 11, ns := 999999920 }, 9400000000, 5)) = true := by decide

/-- 1.5.1, SET_TIME. -/
theorem test_set_time :
    let s : State := { booted with rcu := { booted.rcu with
      time := { sec := 1000, ns := 500030000, frac := 7 }, timeSet := false } }
    let d := execute { stamp := { sec := 1000, ns := 500000000 } }
      { kind := 4, table := 0, index := 0, param := 1 :: (be 6 1700000000 ++ be 4 0) } s
    d.state.rcu.time = { sec := 1700000000, ns := 30000, frac := 7 } ∧ d.state.rcu.epoch = 1 ∧
      quality d.state = .free ∧ d.state.wru.pending.getLsbD 51 = true ∧
      d.state.rrg.held.map Record.body = [.rack .step .idle .idle 1699998999500000000] := by decide

/-- Chapter 3, hash indices. -/
theorem test_hash_index : hashIndex 0x021A33405C07 = 48 := by decide

/-- An ECHO of the time server with these fields, and its check sequence. -/
def echoFrame (seq : Seq) (t1 t2 t3 : Stamp) (q : Byte) : List Byte :=
  whole (gtpFrame ownAddr timeServerAddr none 0x9C5E 4 0 0 seq
    (t1.octets ++ t2.octets ++ t3.octets ++ [q]))

/-- A part with a probe sent at t1 = 5,000 ns, whose rack time is now 11,100 ns of the same second, and a
full delay window (2.10.1). -/
def probed (d : DState) : State :=
  { booted with
    rcu := { booted.rcu with time := { sec := 1, ns := 11100 }, f := 1000000, a := 1000000, k := 34360 }
    dse := { booted.dse with
      state := d
      probeTimer := some 125000000
      nextSeq := 8
      outstanding := some { seq := 7, port := .u, sent := some ({ sec := 1, ns := 5000 }, 0) }
      window := [2900, 2760, 2810, 2950, 2700, 2880, 2790, 2840]
      history := [1000000, 1010000, 990000, 1000000]
      lockCount := 31
      lastOffset := some 100 } }

/-- The ECHO of 2.10.1, whole. -/
def workedEcho (d : DState) : Arriving :=
  frameOf .forPart (echoFrame 7 { sec := 1, ns := 5000 } { sec := 1, ns := 5400 }
    { sec := 1, ns := 5900 } 4) (probed d)

/-- 2.10.1 and chapter 1: one accepted exchange in LOCKED. -/
theorem test_accepted_exchange :
    after (exec (.echoEnd .u noFlow) (receiving .u (workedEcho .locked) (probed .locked))) (fun t =>
      t.rcu.f == 850000 && t.rcu.s == -1200000 && t.rcu.a == -350000 && t.rcu.k == -12026 &&
        t.rcu.phaseTimer == some (1000000 + 125000000) &&
        t.dse.window == [2760, 2810, 2950, 2700, 2880, 2790, 2840, 2800] &&
        t.dse.history == [850000, 1000000, 1010000, 990000] && t.dse.lockCount == 32 &&
        t.dse.lastOffset == some 2400 && t.dse.state == .locked) = true := by decide +kernel

/-- 2.10.2, at 109 s: the eighth miss enters HOLDOVER on the mean of the rate history. -/
def silentServer : State :=
  { probed .locked with
    rcu := { (probed .locked).rcu with uptime := 125000000, f := 850000, a := 850000, k := 29206 }
    dse := { (probed .locked).dse with
      history := [850000, 1000000, 1010000, 990000]
      missRun := 7
      lastOffset := some 2400 } }

theorem test_eighth_miss_enters_holdover :
    after (exec .probeTimerExpiry silentServer) (fun t =>
      t.dse.state == .holdover && t.rcu.f == 962500 && t.rcu.k == 33071 && t.dse.u == 2400 &&
        t.rrg.held.map Record.body == [.rack .state .locked .holdover 962500] &&
        t.wru.condition.getLsbD 48 && t.dse.outstanding.map Outstanding.seq == some 8) = true := by
  decide

/-- 2.10.2: the increase that brings U to 100,100 ns makes the discipline FREERUN. -/
def growing : State :=
  { inState .holdover booted with
    dse := { (inState .holdover booted).dse with u := 100000, growthTimer := some 1000000 } }

theorem test_growth_reaches_freerun :
    after (exec .growthTimerExpiry growing) (fun t =>
      t.dse.state == .freerun && t.dse.u == 100100 && t.wru.pending.getLsbD 50 && t.rrg.seq == 2 &&
        quality t == .free) = true := by decide

/-- The server of 5.11.2 before query 17. -/
def server17 : Server :=
  { state := .inBound, address := serverA, lastTi := some { sec := 2016, ns := 300000000 }
    sampleEpoch := some 0, lastSample := some 1660, fo := some 1520, windowFo := 1520
    windowTi := { sec := 2016, ns := 300000000 }, windowCount := 0, drift := some 20, queries := 17 }

/-- A LOCKED part whose entry 5 is that server. -/
def tracking : State :=
  { inState .locked booted with dtr := { booted.dtr with servers := booted.dtr.servers.set 5 (some server17) } }

/-- 5.11.2, query 17: o is 150,000 ns above fo, and fo becomes 20,270 ns. -/
theorem test_query_17 :
    (serverAt 5 (trackQuery serverA { stamp := { sec := 2017, ns := 300000000 }, quality := .lock }
      { sec := 2017, ns := 300151520 } 0xFFFFFFFF tracking)).map (fun sv => (sv.fo, sv.state)) =
      some (some 20270, .inBound) := by decide

/-- The transit frame of 10.8.2 at the head of port U's buffer. -/
def transitFrame : PassFrame :=
  let o := echoFrame 7 {} {} {} 4
  { octets := o.take 22 ++ be 6 25600 ++ o.drop 28, arrival := .good, transit := some 22
    ingressUptime := 1000000 }

/-- Port U at the boundary of 10.8.2. -/
def correcting : State :=
  { booted with
    rcu := { booted.rcu with uptime := 1000150, ingressComp := ⟨0, 180⟩, egressComp := ⟨220, 0⟩ }
    egm := ⟨{ link := true, buffer := [transitFrame] }, { link := true }⟩ }

/-- 10.8.2, a transit correction. -/
theorem test_transit_correction :
    after (exec (.frameBoundary .u noFlow) correcting) (fun t =>
      (t.port .u).egress == some (.pass (some 435200) 1)) = true := by decide +kernel

/-- The answer in slot 3 of the tests, FILLED on port U. -/
def answer3 : Answer :=
  { requester := serverA, port := .u, tag := none, domain := 0, seq := 0x0310
    ts := { sec := 4, ns := 400 }, t2 := { sec := 4, ns := 999999900 }, epoch := 0, quality := .lock
    uncertainty := 2400, served := true, own := ownAddr, timeType := 0x9C5E, rackId := 212 }

/-- The queues of 10.8.1 at its second boundary, with what their entries stand for. -/
def loaded : State :=
  { booted with
    anu := { booted.anu with slots := booted.anu.slots.set 3 { answer := some answer3 } }
    rrg := { booted.rrg with
      held := [{ quality := .lock, seq := 7, date := {}, body := .mark [0, 0, 0, 0] }]
      next := 1
      count := 1
      seq := 8 }
    rpe := { booted.rpe with inFlight := some { sending := false, port := .u, n := 1, first := 7 } }
    mgu := { booted.mgu with response := some { octets := [1], port := .u, resetPending := false } }
    egm := ⟨{ link := true, buffer := [{ transitFrame with transit := none }]
              queue := [{ source := .report }, { source := .response }, { source := .slot 3 }] },
      { link := true }⟩ }

/-- Port U with this occupancy and this queue, its head frame ready (10.8.1). -/
def portU (octets : Nat) (queue : List Source) : Egm :=
  { link := true, queue := queue.map fun x => { source := x }
    buffer := [{ octets := List.replicate octets 0, arrival := .good }] }

/-- 10.8.1, choices on a loaded uplink. -/
theorem test_arbiter_choices :
    choose (portU 20000 [.report, .response]) = some .pass ∧
      choose (portU 12500 [.report, .response, .slot 3]) = some (.entry (.slot 3)) ∧
      choose (portU 12500 [.report, .response]) = some (.entry .response) ∧
      choose (portU 12500 [.report]) = some (.entry .report) ∧
      choose (portU 12500 []) = some .pass := by decide +kernel

/-- A COMPLETION to server A, with its check sequence. -/
def completionFrame (flow : Nat) (tag : Nat) (status : Nat) : List Byte :=
  whole (padTo60 (be 6 serverA.toNat ++ be 6 1 ++ be 2 0x9C5F ++ be 1 8 ++ be 1 0 ++ be 3 flow ++
    be 2 tag ++ be 1 status))

/-- Entry 0 of 7.12.1 after E1. -/
def exchange0 : Exchange :=
  { key := { initiator := serverA, flow := 0x00A1F3, tag := 0x0011 }, op := 2, profile := 2
    stamp := { sec := 5, ns := 0 }, quality := .lock, epoch := 0, drifting := false
    deadline := 1000000 }

/-- A LOCKED part with that entry OPEN, 250,000 ns later. -/
def dating : State :=
  { inState .locked booted with
    rcu := { booted.rcu with time := { sec := 5, ns := 250000 } }
    dte := { booted.dte with exchanges := booted.dte.exchanges.set 0 (some exchange0) } }

/-- The completion of E4. -/
def workedCompletion : Arriving := frameOf .passed (completionFrame 0x00A1F3 0x0011 0) dating

/-- 7.12.1, E4: the completion closes entry 0 with a latency of 250,000 ns. -/
theorem test_completion_latency :
    after (exec (.storageCompletionEnd .u noFlow) (passing .u workedCompletion dating)) (fun t =>
      t.dte.exchanges[0]? == some none &&
        t.rrg.held.map Record.body == [.exchange exchange0.key 2 0 .completed 250000]) = true := by
  decide +kernel

/-- 7.12.1, E7: at its deadline an entry closes TIMED_OUT, with status 0xFF and no latency. -/
theorem test_deadline :
    after (exec (.exchangeDeadline 1000000) dating) (fun t =>
      t.rrg.held.map Record.body == [.exchange exchange0.key 2 0xFF .timedOut 0xFFFFFFFF]) = true := by
  decide +kernel

/-- The loss of port U of 10.8.3: a probe in egress, an answer, a report and three frames. -/
def losing : State :=
  { loaded with
    dse := { booted.dse with
      state := .locked
      frame := some { seq := 7, port := .u, octets := [1] }
      outstanding := some { seq := 7, port := .u, sent := some ({}, 0) } }
    mgu := { loaded.mgu with response := none }
    egm := ⟨{ link := true, buffer := [transitFrame, transitFrame, transitFrame]
              egress := some (.own .probe [1] 1)
              queue := [{ source := .probe, inEgress := true }, { source := .slot 3 },
                { source := .report }] }, { link := true }⟩ }

/-- 10.8.3, link loss. -/
theorem test_link_loss :
    after (exec (.linkLoss .u noFlow) losing) (fun t =>
      (t.port .u).ctr.linkDrops == 3 && (t.port .u).ctr.originatedDrops == 3 &&
        t.dse.ctr.probesDropped == 1 && t.dse.ctr.misses == 1 && t.rpe.ctr.dropped == 1 &&
        (t.anu.slots.map Slot.dropped) == [0, 0, 0, 1, 0, 0, 0, 0] && (t.port .u).queue == []) =
      true := by decide

/-! ### Witnesses: states and operands that meet the hypotheses of the statements -/

theorem witness_StepRunsFrontCommand :
    ({ booted with pending := [.oscillatorTick] } : State).pending = [.oscillatorTick] ∧
      booted.pending = [] := by decide

theorem witness_ReleaseBeginsBootRead : State.reset.resetHeld = true := by decide

theorem witness_BootRecordTaken : (be 9 0).length = 9 ∧ bootReading reading = true := by decide

theorem witness_BootDefaultsTaken :
    let damaged := bootRecord.set 14 0x0B
    reading.mgu.reading = true ∧ reading.mgu.readSince = some 0 ∧
      ([] : List Byte).take 3 ≠ [0x47, 0x48, 1] ∧ (bootRecord.take 31).length ≠ 32 ∧
      damaged.length = 32 ∧ damaged.take 3 = [0x47, 0x48, 1] ∧
      (damaged.getD 21 0).toNat * 256 + (damaged.getD 22 0).toNat ≠
        ((damaged.take 21).map BitVec.toNat).sum % 65536 := by decide

/-- R213: the read ends as no reply at 6,250,000 ticks and not before. -/
theorem test_boot_timeout :
    let at_ (n : Uptime) : State := { reading with rcu := { reading.rcu with uptime := n } }
    after (exec .bootReadTimeout (at_ 6249999)) (fun t => t.mgu.reading) = true ∧
      after (exec .bootReadTimeout (at_ 6250000)) (fun t => !t.mgu.reading && t.mgu.bootFault) =
        true := by decide

/-- A LOCKED part in the last nanosecond of a second. -/
def lastTick : State :=
  { inState .locked booted with
    rcu := { booted.rcu with time := { sec := 281474976710655, ns := 999999999, frac := 4294967295 } } }

theorem witness_TickAddsIncrement :
    (TimeValid booted ∧ RateConsistent booted ∧ booted.resetHeld = false) ∧
      TimeValid lastTick ∧ RateConsistent lastTick ∧ lastTick.resetHeld = false := by decide

/-- R1, R17: the tick after the last nanosecond of the range returns the seconds to 0, and a second pulse
begins at it. -/
theorem witness_SecondPulseBegins :
    after (exec .oscillatorTick lastTick) (fun t =>
      t.rcu.time == { sec := 0, ns := 7, frac := 4294967295 } && t.rcu.pulse &&
        t.rcu.pulseTimer == some 13500001) = true := by decide

/-- A part whose second pulse and phase window end now (the servo case of chapter 1). -/
def expiring : State :=
  { booted with rcu := { booted.rcu with
      f := 850000, s := -1200000, a := -350000, k := -12026
      phaseTimer := some 1000000, pulse := true, pulseTimer := some 1000000 } }

theorem witness_PulseReleased : expiring.rcu.pulseTimer = some 1000000 ∧
    ({ expiring with rcu := { expiring.rcu with pulseTimer := some 1000001 } } : State).rcu.pulseTimer =
      some 1000001 := by decide

theorem witness_PhaseWindowEnds : RateConsistent expiring ∧ expiring.rcu.phaseTimer = some 1000000 ∧
    reached expiring.rcu.uptime 1000000 = true := by decide

/-- Chapter 1: after the window A is F, and K is 29,206. -/
theorem test_phase_window_ends :
    after (exec .phaseTimerExpiry expiring) (fun t => t.rcu.a == 850000 && t.rcu.k == 29206) = true := by
  decide

/-- R10 at the ends of the range: rack time of `booted` is 5,000,000,500 ns; and R12 for each of its answers,
by the ingress stamp of the frame, its epoch and G. -/
theorem witness_StepAndSetTimeMoveTime :
    ((0 : Int) ≤ (booted.rcu.time.nanos : Int) + -5000000500 ∧
      (-9223372036854775808 : Int) ≤ -5000000500 ∧ (-5000000500 : Int) ≤ 9223372036854775807) ∧
    (¬ (0 : Int) ≤ (booted.rcu.time.nanos : Int) + -5000000501 ∧
      (-9223372036854775808 : Int) ≤ -5000000501 ∧ (-5000000501 : Int) ≤ 9223372036854775807) ∧
    ([(0, { sec := 5, ns := 1000000000 }), (1, { sec := 5, ns := 0 }), (0, { sec := 2 ^ 47, ns := 0 }),
        (0, { sec := 5, ns := 499 }), (0, { sec := 0, ns := 0 })].map
      (fun (x : Epoch × Stamp) => (execute { stamp := { sec := 5, ns := 500 }, epoch := x.1 }
        { kind := 4, table := 0, index := 0, param := 1 :: x.2.octets } booted).status)) =
      [.badValue, .denied, .badValue, .ok, .ok] := by decide +kernel

/-- The part of 2.10.1 in ACQUIRE with this step threshold, its ECHO whole on port U. -/
def acquiring (threshold : Nat) : State :=
  receiving .u (workedEcho .acquire) { probed .acquire with
    dse := { (probed .acquire).dse with
      settings := { (probed .acquire).dse.settings with stepThreshold := threshold } } }

theorem witness_AcceptedExchangeServes_slew :
    let s := acquiring 2400
    let a := workedEcho .acquire
    EndsGoodAs .echo .u noFlow a s ∧ matchEcho a (ended .u noFlow a s) = some { sec := 1, ns := 5000 } ∧
      s.dse.state = .acquire ∧ HistoryInRange s ∧ (echoFields a).t2.ns.toNat ≤ 999999999 ∧
      (echoFields a).t3.ns.toNat ≤ 999999999 ∧ (echoFields a).serverQuality = 4 ∧
      2800 ≤ s.dse.settings.delayCeiling ∧
      gatedOut s.dse.window s.dse.settings.gate 2800 = false ∧ 2400 ≤ s.dse.settings.stepThreshold := by
  decide +kernel

theorem witness_AcceptedExchangeServes_step :
    let s := acquiring 2399
    let a := workedEcho .acquire
    EndsGoodAs .echo .u noFlow a s ∧ matchEcho a (ended .u noFlow a s) = some { sec := 1, ns := 5000 } ∧
      s.dse.state = .acquire ∧ HistoryInRange s ∧ gatedOut s.dse.window s.dse.settings.gate 2800 = false ∧
      ¬ 2400 ≤ s.dse.settings.stepThreshold := by decide +kernel

/-- The part of 2.10.1 in this state with this step threshold, step-in-lock and unlock run, its ECHO whole on
port U. -/
def serving (d : DState) (threshold : Nat) (stepInLock : Bool) (unlockRun : BitVec 32) : State :=
  receiving .u (workedEcho d) { probed d with
    dse := { (probed d).dse with
      unlockRun := unlockRun
      lockInRun := 3
      settings := { (probed d).dse.settings with
        stepThreshold := threshold, stepInLock := stepInLock, unlockThreshold := 2399
        rateJumpLimit := 100000 } } }

/-- R38, R42, R43 and R36: in LOCKED within the threshold (the sixteenth exchange, which jumps), beyond it with
step-in-lock off and on, at the unlock count, and from HOLDOVER; each meets the hypotheses. -/
theorem witness_AcceptedExchangeServes_locked :
    ∀ x ∈ [(DState.locked, 2400, false, 0, DState.locked, (850000 : Int), 33, 1),
        (.locked, 2399, false, 1, .locked, 850062, 33, 1), (.locked, 2399, true, 2, .acquire, 1000000, 31, 0),
        (.locked, 2400, true, 2, .acquire, 850000, 32, 1), (.holdover, 2400, false, 0, .locked, 850000, 0, 0),
        (.freerun, 2399, true, 0, .acquire, 1000000, 31, 0)],
      let s := serving x.1 x.2.1 x.2.2.1 x.2.2.2.1
      let a := workedEcho x.1
      EndsGoodAs .echo .u noFlow a s ∧
        matchEcho a (ended .u noFlow a s) = some { sec := 1, ns := 5000 } ∧ s.dse.state ≠ .idle ∧
        HistoryInRange s ∧ gatedOut s.dse.window s.dse.settings.gate 2800 = false ∧
        after (exec (.echoEnd .u noFlow) s) (fun t =>
          t.dse.state == x.2.2.2.2.1 && t.rcu.f == x.2.2.2.2.2.1 &&
            t.dse.ctr.rateJumps == x.2.2.2.2.2.2.2) = true := by decide +kernel

/-- A part that probes, its probe timer expiring now. -/
def probing : State :=
  { inState .acquire booted with
    dse := { (inState .acquire booted).dse with probeTimer := some 1000000 } }

theorem witness_ProbeBuiltAtExpiry :
    probing.dse.probeTimer = some 1000000 ∧ reached probing.rcu.uptime 1000000 = true ∧
      probing.mgu.station.timeServer ≠ 0 ∧ probing.dse.outstanding = none ∧ probing.dse.frame = none ∧
      probing.wru.testDue = false ∧ (probing.port probing.mgu.station.timeServerPort).link = true := by
  decide

/-- R45: with U above the limit at its entry, FREERUN at once. -/
theorem witness_MissLimitEntersHoldover_freerun :
    let s : State := { silentServer with dse := { silentServer.dse with
      settings := { silentServer.dse.settings with holdoverLimit := 2399 } } }
    s.dse.probeTimer = some 125000000 ∧ s.dse.state = .locked ∧ s.dse.lastOffset = some 2400 ∧
      after (exec .probeTimerExpiry s) (fun t => t.dse.state == .freerun) = true := by decide

theorem witness_MissLimitEntersHoldover :
    let s := silentServer
    s.dse.probeTimer = some 125000000 ∧ reached s.rcu.uptime 125000000 = true ∧
      s.mgu.station.timeServer ≠ 0 ∧ s.dse.outstanding.isSome = true ∧ s.dse.frame = none ∧
      (s.port s.mgu.station.timeServerPort).link = true ∧ s.dse.state = .locked ∧
      s.dse.lastOffset = some 2400 ∧ s.dse.settings.missLimit ≤ (bump s.dse.missRun).toNat ∧
      HistoryInRange s ∧ RateConsistent s := by decide

theorem witness_GrowthExpiryRaisesUncertainty :
    growing.dse.growthTimer = some 1000000 ∧ reached growing.rcu.uptime 1000000 = true ∧
      growing.dse.state = .holdover := by decide

theorem witness_DisciplineStartsAndStops : RateConsistent booted := by decide

/-- A part with a queue, a report in flight and a record, at which an oscillator tick waits. -/
def ticking : State := { loaded with pending := [.oscillatorTick] }

theorem witness_step : ∃ t, step ticking = .next t := ⟨_, rfl⟩

theorem witness_ClockConsistencyKept : TimeValid ticking ∧ RateConsistent ticking := by decide

theorem witness_HoldoverRunsOnLearnedRate :
    RateConsistent ticking ∧ HistoryInRange ticking ∧ HoldoverRateKept ticking := by decide

theorem witness_DisciplineTimersFollowState : DisciplineTimers ticking := by decide

theorem witness_RingStaysConsistent :
    RingConsistent ticking ∧ PressureConsistent ticking ∧ ReportHeld ticking :=
  ⟨by decide, by decide, by decide, by decide, by decide, by decide⟩

theorem witness_AlertLineFollowsPending : AlertLineDriven ticking ∧ ticking.wru.testDue = false := by
  decide

theorem witness_ConditionSetAgrees : TableSizes ticking ∧ ConditionsAgree ticking := by decide +kernel

theorem witness_KeysStayDistinct : ServersDistinct ticking ∧ ExchangesDistinct ticking := by decide

theorem queuesConsistent_loaded : QueuesConsistent loaded := by
  refine ⟨by decide, ?_, ⟨by decide, by decide⟩, ⟨by decide, by decide⟩, ⟨by decide, by decide⟩, ?_, ?_⟩
  · intro n
    fin_cases n <;> exact ⟨by decide, by decide⟩
  · refine ⟨by decide, by decide, ?_, by decide, by decide⟩
    intro e he
    fin_cases he <;> trivial
  · refine ⟨by decide, by decide, ?_, by decide, by decide⟩
    intro e he
    cases he

theorem witness_QueuesAgreeWithOwners : QueuesConsistent ticking := queuesConsistent_loaded

theorem witness_FrameStartTakesRecord :
    let s1 := applyFlow noFlow booted
    let s2 := applyFlow noFlow { booted with mgu := { booted.mgu with reading := true } }
    ((s1.port .u).link = true ∧ s1.arriving .u = none) ∧ (s2.port .u).link = true ∧
      s2.arriving .u = none := by decide

/-- A booted part whose buffer of port K, its link UP or DOWN, holds this many octets. -/
def heldOnK (link : Bool) (n : Nat) (s : State) : State :=
  s.setPort .k { s.port .k with link := link, buffer := [{ octets := List.replicate n 0, arrival := .good }] }

/-- R187 at its boundary: room for 9,220 octets or one less, and a link that is DOWN, in either mode. -/
theorem witness_FrameStartTakesRecord_admission :
    ∀ reading : Bool, ∀ x ∈ [(true, 23548, Admission.room, 2, 0, 0), (true, 23549, .full, 1, 1, 0),
        (false, 23548, .down, 1, 0, 1)],
      let s := heldOnK x.1 x.2.1 { booted with mgu := { booted.mgu with reading := reading } }
      ((applyFlow noFlow s).port .u).link = true ∧ (applyFlow noFlow s).arriving .u = none ∧
        after (exec (.frameStart .u noFlow 5) s) (fun t => (t.arriving .u).map Arriving.admission == some x.2.2.1 &&
          (t.port .k).buffer.length == (if reading then x.2.2.2.1 else 1) &&
          (t.port .k).ctr.bufferFull == BitVec.ofNat 32 (if reading then x.2.2.2.2.1 else 0) &&
          (t.port .k).ctr.linkDrops == BitVec.ofNat 32 (if reading then x.2.2.2.2.2 else 0)) = true := by
  decide +kernel

/-- A frame arriving on port K of which one octet has come, with this admission, in a part with this own
address, the rack group 0x03029F000001 and the tag type 0x8100. -/
def begun (own : Address) (how : Admission) : Arriving :=
  { frameOf .undecided [2] booted with
    settings := { own := own, group := 0x03029F000001, tagType := 0x8100, timeType := 0x9C5E
                  storageType := 0x9C5F }
    admission := how }

/-- Octets 1 to 16, or to 20 in a tagged frame, of a GTP frame of this kind to this destination. -/
def kindRead (dst : Address) (tag : Option (BitVec 32)) (kind : Nat) : List Byte :=
  ((gtpFrame dst serverA tag 0x9C5E kind 0 0 7 (be 31 0)).take (if tag.isSome then 20 else 16)).tail

/-- R55, R57, R187: each course, by the own address, the admission, the octets the command brings, and the
course and the buffered frames that follow. -/
theorem witness_ForPartDecided :
    ∀ x ∈ [(ownAddr, Admission.room, kindRead ownAddr none 4, Course.forPart, 0),
        (ownAddr, .room, kindRead ownAddr (some 0x81000005) 4, .forPart, 0),
        (ownAddr, .room, kindRead 0x02029F000001 none 4, .passed, 1),
        (ownAddr, .full, kindRead serverA (some 0x81000005) 1, .refused, 0),
        (ownAddr, .down, kindRead serverA none 1, .refused, 0),
        (0, .room, kindRead 0 none 1, .passed, 1),
        (ownAddr, .room, (kindRead ownAddr none 4).take 14, .undecided, 0),
        (ownAddr, .room, (be 11 0 ++ be 2 0x0800), .passed, 1),
        (ownAddr, .room, (be 11 0 ++ be 2 0x8100), .undecided, 0)],
      let a := begun x.1 x.2.1
      let s := receiving .k a booted
      s.arriving .k = some a ∧ a.course = .undecided ∧
        after (exec (.forPartDecision .k ⟨⟨[], x.2.2.1⟩, ⟨0, 0⟩⟩) s) (fun t =>
          (t.arriving .k).map Arriving.course == some x.2.2.2.1 &&
            (t.port .u).buffer.length == x.2.2.2.2) = true := by decide +kernel

/-- R57 2 and 3: a QUERY to the rack group and a broadcast MGMT_REQ while the own address is zero are for the
part. -/
theorem witness_ForPartDecided_group :
    ∀ x ∈ [(ownAddr, (0x03029F000001 : Address), 1), (0, BitVec.allOnes 48, 5)],
      let a := { begun x.1 .room with octets := (be 6 x.2.1.toNat).take 1 }
      after (exec (.forPartDecision .k ⟨⟨[], kindRead x.2.1 none x.2.2⟩, ⟨0, 0⟩⟩) (receiving .k a booted))
        (fun t => (t.arriving .k).map Arriving.course == some .forPart) = true := by decide +kernel

/-- R187: the octets of a frame that is no GTP frame enter the buffer with whatever command brings them. -/
theorem test_octets_enter_with_any_command :
    after (exec (.egressEnd .u ⟨⟨[], be 11 0 ++ be 2 0x0800⟩, ⟨0, 0⟩⟩)
        (receiving .k (begun ownAddr .room) booted)) (fun t => occupancy (t.port .u) == 14) = true := by
  decide +kernel

/-- A part with one filter in entry 1: this pattern under a mask of the top octet, this action. -/
def filtered (pattern : BitVec 32) (action : Action) (s : State) : State :=
  { s with fcl := { s.fcl with
      masks := [BitVec.allOnes 32, 0xFF000000, 0, 0]
      filters := s.fcl.filters.set 1
        { enable := true, pattern := pattern, maskSel := 1, action := action, target := 2 } } }

/-- An ECHO to another station, arriving on port K. -/
def transitEcho : Arriving :=
  frameOf .passed (whole (gtpFrame serverA timeServerAddr none 0x9C5E 4 0 0 7 (be 31 0))) booted

theorem witness_TransitWalkMarks :
    let s := passing .k transitEcho (filtered 0x14000000 .transit booted)
    let s1 := applyFlow noFlow s
    let f : Filter := { enable := true, pattern := 0x14000000, maskSel := 1, action := .transit, target := 2 }
    s1.arriving .k = some transitEcho ∧ transitWalkDue transitEcho = true ∧
      transitEcho.course = .passed ∧
      (s1.port .u).buffer.getLast? = some { octets := transitEcho.octets, ingressUptime := 1000000 } ∧
      s.fcl.filters[1]? = some f ∧
      f.covers s.fcl.masks (gtpKey transitEcho.settings transitEcho.octets) = true ∧
      (∀ j < 1, ∀ g ∈ s.fcl.filters[j]?,
        g.covers s.fcl.masks (gtpKey transitEcho.settings transitEcho.octets) = true →
          g.action ≠ .transit ∧ g.action ≠ .pass) := by decide +kernel

theorem witness_HeadFrameBecomesReady :
    let a := { transitEcho with octets := transitEcho.octets.take 20, count := 20 }
    let s := passing .k a booted
    let f : PassFrame := { octets := a.octets, ingressUptime := 1000000 }
    let n := 44
    s.arriving .k = some a ∧ a.course = .passed ∧ (s.port .u).buffer = [f] ∧ f.arrival = .arriving ∧
      (s.port .u).egress = none ∧ (s.port .u).queue = [] ∧ f.octets.length + n ≤ 9220 ∧
      64 ≤ f.octets.length + n := by decide

theorem witness_PlainFrameEnds_passed :
    let s := passing .k transitEcho booted
    EndsGoodAs .gtpPass .k noFlow transitEcho s ∧ transitEcho.course = .passed ∧
      ((applyFlow noFlow s).port .u).buffer.getLast? =
        some { octets := transitEcho.octets, ingressUptime := 1000000 } := by decide +kernel

/-- A GTP frame to the part with this version, kind and body length, whole. -/
def formed (version kind length : Nat) : Arriving :=
  let o := gtpFrame ownAddr serverA none 0x9C5E kind 0 0 7 (be 32 0)
  frameOf .forPart (whole (o.take 14 ++ be 1 version ++ be 1 kind ++ o.drop 16 |>.take 20) |>.take 20 |>
    fun h => whole (h ++ be 2 length ++ o.drop 22)) booted

/-- R59, R60 at the ends of their ranges: malformed by the version, the kind and the body length, and
misdirected by the kind. -/
theorem witness_PlainFrameEnds_dropped :
    ∀ x ∈ [(0, 2, 32, EndClass.malformed), (2, 8, 32, .malformed), (1, 0, 32, .malformed),
        (1, 9, 32, .malformed), (1, 2, 33, .malformed), (1, 1, 13, .malformed), (1, 4, 30, .malformed),
        (1, 2, 32, .misdirected), (1, 3, 0, .misdirected), (1, 6, 32, .misdirected),
        (1, 7, 32, .misdirected), (1, 8, 32, .misdirected)],
      let a := formed x.1 x.2.1 x.2.2.1
      let s := receiving .k a booted
      (applyFlow noFlow s).arriving .k = some a ∧ a.course = .forPart ∧ a.transparent = false ∧
        isGoodFrame a = true ∧ endClass a = x.2.2.2 ∧
        after (exec (.frameEnd .k noFlow) s) (fun t => (t.fcl.ctr.get .k).malformed +
          (t.fcl.ctr.get .k).misdirected == 1) = true := by decide +kernel

/-- R53: a frame for the part with a wrong check sequence, one past its limit, and a good one. -/
theorem witness_BadFrameForwarded :
    let good := workedEcho .locked
    let wrong := { good with octets := good.octets.take 60 ++ [1, 2, 3, 4] }
    (∀ a ∈ [good, wrong, { good with count := 9217 }],
      let s := receiving .k a booted
      (applyFlow noFlow s).arriving .k = some a ∧ a.course = .forPart ∧ a.transparent = false ∧
        ((applyFlow noFlow s).port .u).link = true ∧
        a.octets.length ≤ 32768 - occupancy ((applyFlow noFlow s).port .u)) ∧
      isGoodFrame good = true ∧ isGoodFrame wrong = false ∧
      isGoodFrame { good with count := 9217 } = false := by decide +kernel

/-- R54 for each course: by the course, the admission, the link and the octets held on K, the arrival of the last
frame of K's buffer and its two counters. -/
theorem witness_BadFrameForwarded_courses :
    ∀ x ∈ [(Course.forPart, Admission.room, true, 32704, some Arrival.bad, 0, 0),
        (.forPart, .room, true, 32705, some .good, 1, 0), (.forPart, .room, false, 0, some .good, 0, 1),
        (.undecided, .room, true, 9, some .bad, 0, 0), (.undecided, .full, true, 9, some .good, 1, 0),
        (.undecided, .down, true, 9, some .good, 0, 1), (.refused, .full, true, 9, some .good, 0, 0)],
      let octets := List.replicate (if x.1 = .undecided then 13 else 64) 1
      let a : Arriving := { frameOf x.1 octets booted with admission := x.2.1 }
      let s := receiving .u a (heldOnK x.2.2.1 x.2.2.2.1 booted)
      (applyFlow noFlow s).arriving .u = some a ∧ isGoodFrame a = false ∧
        after (exec (.frameBadEnd .u noFlow) s) (fun t =>
          (t.port .k).buffer.getLast?.map PassFrame.arrival == x.2.2.2.2.1 &&
          (t.port .k).ctr.bufferFull == BitVec.ofNat 32 x.2.2.2.2.2.1 &&
          (t.port .k).ctr.linkDrops == BitVec.ofNat 32 x.2.2.2.2.2.2 &&
          (t.fcl.ctr.get .u).badEnds == 1) = true := by decide +kernel

/-- R54: a copy in pass-through ends bad, at FRAME_BAD_END, or stopped, at the loss of the arrival link; one that
stopped before stays so. -/
theorem witness_BadFrameForwarded_passed :
    let a := frameOf .passed (List.replicate 64 1) booted
    let s := passing .u a booted
    let full := s.setPort .k { s.port .k with buffer := [{ octets := a.octets, arrival := .stopped }] }
    let ends (c : Instr) (s : State) : Option (List Arrival) :=
      match exec c s with
      | .next t => some ((t.port .k).buffer.map PassFrame.arrival)
      | .fault _ => none
      | .refused _ => none
    (applyFlow noFlow s).arriving .u = some a ∧ isGoodFrame a = false ∧
      ends (.frameBadEnd .u noFlow) s = some [.bad] ∧ ends (.linkLoss .u noFlow) s = some [.stopped] ∧
      ends (.frameBadEnd .u noFlow) full = some [.stopped] := by decide +kernel

/-- The query of 4.10.1, with its check sequence. -/
def workedQuery (s : State) : Arriving :=
  frameOf .forPart (whole (gtpFrame ownAddr 0x021A33405C07 none 0x9C5E 1 0 0 0x0310
    (be 6 1700000120 ++ be 4 400000000 ++ be 4 11000))) s

/-- A part whose filter 1 answers queries from slot 2. -/
def answering : State := filtered 0x11000000 .answer booted

theorem witness_QueryClaimsSlot :
    let a := workedQuery answering
    let s := receiving .k a answering
    EndsGoodAs .query .k noFlow a s ∧ queryWalk a (ended .k noFlow a s) = .claim 1 2 ∧
      2 < s.anu.slots.length ∧ ((ended .k noFlow a s).port .k).link = true := by decide +kernel

theorem witness_UnansweredQueryCounted :
    let a := workedQuery booted
    let busy : State := { answering with anu := { answering.anu with
      slots := answering.anu.slots.set 2 { answer := some answer3 } } }
    (EndsGoodAs .query .k noFlow a (receiving .k a booted) ∧
      queryWalk a (ended .k noFlow a (receiving .k a booted)) = .dropped none) ∧
    EndsGoodAs .query .k noFlow a (receiving .k a busy) ∧
      queryWalk a (ended .k noFlow a (receiving .k a busy)) = .overrun 2 ∧
      2 < busy.anu.slots.length := by decide +kernel

/-- A server in this state with this run, its window begun 1 s before a query at 2,017 s with `n` queries. -/
def sampled (st : SState) (fo : Option Int) (n run : Nat) : Server :=
  { server17 with
    state := st, fo := fo, windowFo := fo.getD 0, windowTi := { sec := 2016, ns := 0 }, windowCount := n
    run := run, drift := none }

/-- A part of this quality whose entry 5 is `sv`; a query samples it at 2,017 s with this offset, and fo follows
each sample whole. -/
def afterSample (d : DState) (sv : Server) (o : Int) : Option (SState × Nat × Nat) :=
  let s := inState d booted
  let s : State := { s with dtr := { s.dtr with
    servers := s.dtr.servers.set 5 (some sv)
    settings := { s.dtr.settings with k := 0, wildLimit := 500000 } } }
  (serverAt 5 (trackQuery serverA { stamp := { sec := 2017, ns := 0 }, quality := .lock }
    (stampOfNanos (2017000000000 + o).toNat) 0 s)).map fun sv => (sv.state, sv.run, sv.windowCount)

theorem witness_TrackedQuerySampled :
    findServer serverA tracking = some 5 ∧ serverAt 5 tracking = some server17 := by decide

/-- R101 and R102: query W completes the window, one before does not, and a wild one does not. -/
theorem witness_TrackedQuerySampled_window :
    afterSample .locked (sampled .inBound (some 0) 15 0) 0 = some (.inBound, 0, 0) ∧
      afterSample .locked (sampled .inBound (some 0) 14 0) 0 = some (.inBound, 0, 15) ∧
      afterSample .locked (sampled .drifting (some 0) 15 2) 500001 = some (.drifting, 0, 16) ∧
      afterSample .locked (sampled .silent (some 7) 15 0) 0 = some (.probation, 0, 0) := by decide +kernel

/-- R102 to R106: each move of the tables, by the state, fo, the window count, the run and the offset; and none
of them while the quality is below LOCK. The drift of a completed window of 1 s is the offset in ppb. -/
theorem witness_TrackedQuerySampled_evaluation :
    ∀ x ∈ [(SState.probation, 14, 0, (500001 : Int), SState.drifting, 0), (.watch, 14, 2, 500001, .drifting, 0),
        (.probation, 14, 0, 100001, .probation, 0), (.probation, 15, 0, 10000, .inBound, 0),
        (.probation, 15, 0, 10001, .watch, 1), (.inBound, 14, 0, 100000, .inBound, 0),
        (.inBound, 14, 0, 100001, .watch, 1), (.watch, 14, 1, 100001, .watch, 2),
        (.watch, 14, 2, -100001, .drifting, 0), (.watch, 14, 2, 75000, .inBound, 0),
        (.watch, 14, 2, 75001, .watch, 2), (.drifting, 14, 1, 75000, .drifting, 2),
        (.drifting, 14, 2, 75000, .inBound, 0), (.drifting, 14, 2, 75001, .drifting, 0)],
      (afterSample .locked (sampled x.1 (some 0) x.2.1 x.2.2.1) x.2.2.2.1).map
          (fun r => (r.1, r.2.1)) = some (x.2.2.2.2.1, x.2.2.2.2.2) ∧
        (afterSample .acquire (sampled x.1 (some 0) x.2.1 x.2.2.1) x.2.2.2.1).map
          (fun r => (r.1, r.2.1)) = some (x.1, x.2.2.1) := by decide +kernel

/-- R112: with a floor of 2, two DRIFTING servers of four are no majority, and the third is one. -/
theorem witness_TrackedQuerySampled_majority :
    let s := inState .locked booted
    let e (i : Nat) (st : SState) : Option Server := some { sampled st (some 1) 14 2 with address := i }
    let s : State := { s with dtr := { s.dtr with
      servers := [e 1 .drifting, e 2 .drifting, e 3 .inBound, some (sampled .watch (some 0) 14 2)] ++
        List.replicate 44 none
      settings := { s.dtr.settings with k := 0, majorityFloor := 4 } } }
    let q (o : Nat) := trackQuery serverA { stamp := { sec := 2017, ns := 0 }, quality := .lock }
      (stampOfNanos (2017000000000 + o)) 0 s
    (q 80000).dtr.majority = false ∧ (q 100001).dtr.majority = true ∧
      (q 100001).rrg.held.map (fun r => r.body.kind) = [2, 3] ∧
      (q 100001).wru.condition.getLsbD 49 = true := by decide +kernel

/-- R93: a source that no entry holds is admitted at the lowest EMPTY entry and sampled there; zero, a group
address, auto-learn off and a full table leave it untracked. -/
theorem witness_TrackedQuerySampled_untracked :
    let new : Address := 0x021A33405C99
    let off : State := { tracking with dtr := { tracking.dtr with
      settings := { tracking.dtr.settings with autoLearn := false } } }
    let full : State := { tracking with dtr := { tracking.dtr with
      servers := List.replicate 48 (some server17) } }
    let track (src : Address) (s : State) : State := trackQuery src {} {} 0 s
    (∀ x ∈ [(0, tracking), (0x010000000001, tracking), (new, off), (new, full)],
      findServer x.1 x.2 = none ∧ (track x.1 x.2).dtr.ctr.untracked = 1 ∧
        (track x.1 x.2).dtr.servers = x.2.dtr.servers) ∧
    findServer new tracking = none ∧ tracking.dtr.servers[0]? = some none ∧
      (serverAt 0 (track new tracking)).map (fun sv => (sv.address, sv.queries)) = some (new, 1) ∧
      (track new tracking).dtr.ctr.admissions = 1 := by decide +kernel

theorem witness_HeldEvaluationMovesNoServer :
    let s := inState .holdover tracking
    (quality s).code < 4 ∧ serverAt 5 s = some server17 ∧ server17.state ≠ .silent ∧
      after (exec .oscillatorTick s) (fun t => serverAt 5 t == some server17) = true := by decide

/-- A part at this uptime whose entry 5 is `sv`. -/
def aged (uptime : Uptime) (sv : Server) : State :=
  { booted with
    rcu := { booted.rcu with uptime := uptime }
    dtr := { booted.dtr with servers := booted.dtr.servers.set 5 (some sv) } }

theorem witness_AgedServerFallsSilent :
    let s := aged 7500000000 server17
    serverAt 5 s = some server17 ∧ server17.state ≠ .silent ∧
      s.dtr.settings.silenceTimeout * 125000000 ≤ (s.rcu.uptime - server17.lastQuery).toNat ∧
      (s.rcu.uptime - server17.lastQuery).toNat < s.dtr.settings.evictionTime * 125000000 := by decide

theorem witness_SilentServerEvicted :
    ∀ sv ∈ [{ server17 with state := .silent }, { server17 with state := .silent, pinned := true }],
      let s := aged 450000000000 sv
      serverAt 5 s = some sv ∧ sv.state = .silent ∧
        s.dtr.settings.evictionTime * 125000000 ≤ (s.rcu.uptime - sv.lastQuery).toNat := by decide

/-- A WRITE command of server A, with its check sequence, whole. -/
def workedCommand : Arriving :=
  frameOf .passed (whole (padTo60 (be 6 1 ++ be 6 serverA.toNat ++ be 2 0x9C5F ++ be 1 2 ++ be 1 0 ++
    be 3 0x00A1F3 ++ be 2 0x0011 ++ be 1 0))) booted

/-- A part with this DATE pattern, this pressure and these OPEN entries of 256. -/
def dated (pattern : BitVec 32) (pressure : Bool) (l : List (Option Exchange)) : State :=
  let s := filtered pattern .date booted
  { s with
    rrg := { s.rrg with pressure := pressure }
    dte := { s.dte with
      exchanges := l
      profiles := s.dte.profiles.modify 2 fun q => { q with sheddable := true } } }

/-- R133, R136 to R139: not shown, shed, reused, opened and undated, each in a state that meets its hypotheses,
and what the profile counts. -/
theorem witness_StorageCommandDated :
    ∀ x ∈ [(dated 0x21000000 false (List.replicate 256 none), none, 0),
        (dated 0x22000000 true (List.replicate 256 none), some 2, 1),
        (dated 0x22000000 false (some exchange0 :: List.replicate 255 none), some 2, 2),
        (dated 0x22000000 false (List.replicate 256 none), some 2, 3),
        (dated 0x22000000 false (List.replicate 256
          (some { exchange0 with key := { exchange0.key with tag := 0 } })), some (2 : BitVec 3), 4)],
      let a := workedCommand
      let s := passing .u a x.1
      EndsGoodAs .storageCommand .u noFlow a s ∧ s.wru.testDue = false ∧
        (datingWalk (storageKey a.settings a.octets) (ended .u noFlow a s)).2 = x.2.1 ∧
        inScope (sourceAddress a.octets) s = true ∧ s.rrg.count < 2048 - s.rrg.reserve ∧
        after (exec (.storageCommandEnd .u noFlow) s) (fun t =>
          (t.dte.profiles.map fun q => (q.shed, q.reused, q.undated)) ==
            (s.dte.profiles.zipIdx.map fun q =>
              (if x.2.2 = 1 ∧ q.2 = 2 then 1 else 0, if x.2.2 = 2 ∧ q.2 = 2 then 1 else 0,
                if x.2.2 = 4 ∧ q.2 = 2 then 1 else 0)) &&
            (t.dte.profiles.map Profile.dated).sum == (if x.2.2 = 2 ∨ x.2.2 = 3 then 1 else 0)) =
          true := by decide +kernel

theorem witness_CompletionClosesExchange :
    let a := workedCompletion
    let s := passing .u a dating
    EndsGoodAs .storageCompletion .u noFlow a s ∧ s.dte.exchanges[0]? = some (some exchange0) ∧
      exchange0.key = completionKey a ∧ ExchangesDistinct s ∧ s.rrg.count < 2048 - s.rrg.reserve := by
  decide +kernel

theorem witness_DeadlineClosesExchanges :
    reached dating.rcu.uptime 1000000 = true ∧
      dating.dte.exchanges.countP (fun e => e.map Exchange.deadline == some 1000000) = 1 := by
  decide +kernel

theorem witness_RingFlushDiscards :
    let s : State := { loaded with rpe := { loaded.rpe with inFlight := none } }
    RingConsistent s ∧ s.rpe.inFlight = none := by decide

/-- A part whose report timer expires now; a record waits. -/
def reporting : State :=
  { loaded with rpe := { loaded.rpe with timer := some 1000000, inFlight := none } }

theorem witness_ReportTimerDrivesReport :
    reporting.rpe.timer = some 1000000 ∧ reached reporting.rcu.uptime 1000000 = true ∧
      (0 < reporting.rrg.count ∧ reporting.rpe.inFlight = none ∧ reporting.mgu.station.collector ≠ 0) ∧
      loaded.rpe.inFlight ≠ none := by decide

theorem witness_ReportEndDelivers :
    let s := sendingOwn .report [1, 2] loaded
    (s.port .u).egress = some (.own .report [1, 2] 2) ∧
      s.rpe.inFlight = some { sending := false, port := .u, n := 1, first := 7 } ∧ RingConsistent s ∧
      1 ≤ s.rrg.count ∧ s.wru.testDue = false := by decide

theorem witness_ArbiterTakesFirstCase :
    QueuesConsistent (applyFlow noFlow loaded) ∧ ((applyFlow noFlow loaded).port .u).link = true ∧
      ((applyFlow noFlow loaded).port .u).egress = none :=
  ⟨queuesConsistent_loaded, by decide, by decide⟩

/-- `loaded` without its answer, so that no entry is urgent, with this defer mark and this buffer. -/
def unhurried (deferMark : Nat) (buffer : List PassFrame) : State :=
  { loaded with
    anu := booted.anu
    egm := ⟨{ loaded.port .u with
      deferMark := deferMark, buffer := buffer, queue := [{ source := .report }, { source := .response }] },
      { link := true }⟩ }

theorem queuesConsistent_unhurried (n : Nat) (b : List PassFrame) : QueuesConsistent (unhurried n b) := by
  refine ⟨rfl, ?_, ⟨rfl, rfl⟩, ⟨rfl, rfl⟩, ⟨rfl, rfl⟩, ?_, ?_⟩
  · intro n
    fin_cases n <;> exact ⟨rfl, rfl⟩
  · refine ⟨rfl, fun h => absurd (show (true = false) from h) (by decide), ?_, rfl, rfl⟩
    intro e he
    fin_cases he <;> trivial
  · refine ⟨rfl, fun h => absurd (show (true = false) from h) (by decide), ?_, rfl, rfl⟩
    intro e he
    cases he

/-- The other cases of R191: at or below the mark by class, above it the head frame, above it with no ready
frame the oldest entry, and nothing at all. -/
theorem witness_ArbiterTakesFirstCase_others :
    let frame (arrival : Arrival) : PassFrame := { octets := List.replicate 60 0, arrival := arrival }
    QueuesConsistent (unhurried 59 [frame .arriving]) ∧
      choose ((unhurried 60 [frame .good]).port .u) = some (.entry .response) ∧
      choose ((unhurried 59 [frame .good]).port .u) = some .pass ∧
      choose ((unhurried 59 [frame .arriving]).port .u) = some (.entry .report) ∧
      choose (booted.port .u) = none :=
  ⟨queuesConsistent_unhurried _ _, by decide, by decide, by decide, by decide⟩

theorem witness_AnswerStampedAtEgress :
    let s := loaded.setPort .u { loaded.port .u with queue := [{ source := .slot 3 }] }
    let s1 := applyFlow noFlow s
    (s1.port .u).link = true ∧ (s1.port .u).egress = none ∧
      (s1.port .u).queue.head? = some { source := .slot 3 } ∧ 3 < s.anu.slots.length ∧
      (s.anu.slots.getD 3 {}).answer = some answer3 := by decide

theorem witness_ResidenceCorrected :
    let s1 := applyFlow noFlow correcting
    (s1.port .u).link = true ∧ (s1.port .u).egress = none ∧ (s1.port .u).queue = [] ∧
      (s1.port .u).buffer = [transitFrame] ∧ transitFrame.transit = some 22 ∧
      transitFrame.ready = true ∧ headEndedBad .u transitFrame s1 = false := by decide +kernel

theorem witness_PassThroughFrameLeaves :
    let s := correcting.setPort .u
      { correcting.port .u with egress := some (.pass (some 435200) 64) }
    let s1 := applyFlow noFlow s
    (s1.port .u).egress = some (.pass (some 435200) 64) ∧ (s1.port .u).buffer = [transitFrame] ∧
      transitFrame.arrival ≠ .arriving ∧ s.wru.testDue = false := by decide +kernel

/-- The check value of "123456789", as the catalogue of such functions gives it (assumption 13). -/
theorem test_check_sequence :
    checkSequence [0x31, 0x32, 0x33, 0x34, 0x35, 0x36, 0x37, 0x38, 0x39] = [0x26, 0x39, 0xF4, 0xCB] := by
  decide +kernel

/-- 10.8.2: the corrected frame leaves with a good check sequence; had it ended bad, with its complement; cut
short before its egress, with the complement over the octets that arrived. -/
theorem test_check_sequences_sent :
    let leave (f : PassFrame) (r : Option (BitVec 48)) : List Byte := (passDeparted f r).octets
    let good := leave transitFrame (some 435200)
    let bad := leave { transitFrame with arrival := .bad } (some 435200)
    let cut := leave { transitFrame with arrival := .stopped, octets := transitFrame.octets.take 40 } none
    checkIsGood good = true ∧ good.length = transitFrame.octets.length ∧
      bad.take (bad.length - 4) = good.take (good.length - 4) ∧
      bad.drop (bad.length - 4) = (good.drop (good.length - 4)).map (~~~ ·) ∧
      cut = transitFrame.octets.take 40 ++ forcedBadSequence (transitFrame.octets.take 40) ∧
      leave { transitFrame with arrival := .bad } none = transitFrame.octets := by decide +kernel

/-- One frame of each owner in egress on port U. -/
theorem witness_OriginatedFrameEnds :
    let r : Response := { octets := [1, 2], port := .u, resetPending := false }
    let f : ProbeFrame := { seq := 7, port := .u, octets := [1, 2] }
    let s1 := sendingOwn (.slot 3) [1, 2] loaded
    let s2 := sendingOwn .response [1, 2] { loaded with mgu := { loaded.mgu with response := some r } }
    let s3 := sendingOwn .probe [1, 2] { booted with dse := { booted.dse with frame := some f } }
    let s4 : State := { s3 with dse := { s3.dse with held := some { f with port := .k } } }
    ((s1.port .u).egress = some (.own (.slot 3) [1, 2] 2) ∧ s1.wru.testDue = false) ∧
      ((s2.port .u).egress = some (.own .response [1, 2] 2) ∧ s2.mgu.response = some r) ∧
      ((s3.port .u).egress = some (.own .probe [1, 2] 2) ∧ s3.dse.held = none) ∧
      (s4.port .u).egress = some (.own .probe [1, 2] 2) ∧ s4.dse.held = some { f with port := .k } ∧
      (s4.port .k).link = true := by decide

/-- An alert frame in egress on port U: the collector copy alone, the collector copy of a shared entry, and its
manager copy. -/
theorem witness_OriginatedFrameEnds_alert :
    let copy (phase : CopyPhase) : AlertCopy := { port := .u, phase := phase, octets := [1, 2] }
    ∀ x ∈ [(copy .sending, none, 0, none), (copy .sending, some (copy .queued), 1, some CopyPhase.ended),
        (copy .ended, some (copy .sending), 0, none)],
      let s := sendingOwn .alert [1, 2]
        { booted with wru := { booted.wru with alert := some { collector := x.1, manager := x.2.1 } } }
      (s.port .u).egress = some (.own .alert [1, 2] 2) ∧ s.wru.testDue = false ∧
        s.wru.alertDue = false ∧ 0 < s.wru.holdOff ∧
        after (exec (.egressEnd .u noFlow) s) (fun t => (t.port .u).queue.length == x.2.2.1 &&
          t.wru.alert.map (fun a => a.collector.phase) == x.2.2.2) = true := by decide

theorem witness_PartResetSoftResets :
    let r : Response := { octets := [1, 2], port := .u, resetPending := true }
    let s := sendingOwn .response [1, 2] { loaded with mgu := { loaded.mgu with response := some r } }
    (s.port .u).egress = some (.own .response [1, 2] 2) ∧ s.mgu.response = some r ∧
      r.resetPending = true := by decide

theorem queuesConsistent_losing : QueuesConsistent losing := by
  refine ⟨by decide, ?_, ⟨by decide, by decide⟩, ⟨by decide, by decide⟩, ⟨by decide, by decide⟩, ?_, ?_⟩
  · intro n
    fin_cases n <;> exact ⟨by decide, by decide⟩
  · refine ⟨by decide, by decide, ?_, by decide, by decide⟩
    intro e he
    fin_cases he <;> trivial
  · refine ⟨by decide, by decide, ?_, by decide, by decide⟩
    intro e he
    cases he

theorem witness_LinkLossEmptiesPort : QueuesConsistent losing ∧ (losing.port .u).link = true :=
  ⟨queuesConsistent_losing, by decide⟩

/-- What the loss of link U leaves of a frame arriving on K: one that was passed is refused, and one that FCL
has not decided becomes a refusal by link unless its first octet was refused for want of room (R187, R196). -/
theorem test_link_loss_of_departure :
    ∀ x ∈ [(Course.passed, Admission.room, Course.refused, Admission.room),
        (.undecided, .room, .undecided, .down), (.undecided, .full, .undecided, .full),
        (.undecided, .down, .undecided, .down), (.forPart, .room, .forPart, .room)],
      let a : Arriving := { frameOf x.1 [1, 2] losing with admission := x.2.1 }
      after (exec (.linkLoss .u noFlow) (receiving .k a losing)) (fun t =>
        t.arriving .k == some { a with course := x.2.2.1, admission := x.2.2.2 }) = true := by decide

/-- A part whose link U is DOWN, with a report due, and with an alert due or not. -/
theorem witness_LinkUpMakesTests :
    ∀ due : Bool, ∀ copied : Bool,
      let s := reporting.setPort .u { reporting.port .u with link := false, queue := [] }
      let s : State := { s with
        wru := { s.wru with alertDue := due, copyToManager := copied }
        rpe := { s.rpe with timerDue := true }
        mgu := { s.mgu with managerPort := .k } }
      (s.port .u).link = false ∧ .u = s.mgu.station.collectorPort ∧ s.mgu.station.collector ≠ 0 ∧
        after (exec (.linkUp .u) s) (fun t =>
          (t.port .u).queue.map QueueEntry.source == (if due then [.alert] else []) ++ [.report] &&
            (t.port .k).queue.length == (if due && copied then 1 else 0)) = true ∧
        after (exec (.linkUp .k) (s.setPort .k {})) (fun t => (t.port .k).queue == []) = true := by decide

/-- A part with alert-due set, 1 s after the last alert end. -/
def warned : State :=
  { booted with
    rcu := { booted.rcu with uptime := 126000000 }
    wru := { booted.wru with alertDue := true, lastAlertEnd := some 1000000 } }

/-- R124 and R125: no manager copy, one that joins the collector's entry, one on the other port, and one left
out because that port is DOWN. -/
theorem witness_AlertBuiltAfterHoldOff :
    ∀ x ∈ [(false, Port.u, true, 1, 0, false), (true, .u, true, 1, 0, true), (true, .k, true, 1, 1, true),
        (true, .k, false, 1, 0, false)],
      let s : State := { warned with
        wru := { warned.wru with copyToManager := x.1 }
        mgu := { warned.mgu with managerPort := x.2.1 }
        egm := ⟨{ link := true }, { link := x.2.2.1 }⟩ }
      s.wru.lastAlertEnd = some 1000000 ∧ s.wru.holdOff * 125000 ≤ (s.rcu.uptime - 1000000).toNat ∧
        s.mgu.station.collector ≠ 0 ∧ (s.port s.mgu.station.collectorPort).link = true ∧
        s.wru.alert = none ∧ s.wru.alertDue = true ∧
        after (exec .holdOffExpiry s) (fun t => (t.port .u).queue.length == x.2.2.2.1 &&
          (t.port .k).queue.length == x.2.2.2.2.1 &&
          (t.wru.alert.bind Alert.manager).isSome == x.2.2.2.2.2 &&
          t.wru.ctr.managerOmitted == (if x.2.2.1 then 0 else 1)) = true := by decide

/-- A management frame from this source with this body, whole. -/
def managementFrame (src : Address) (body : List Byte) : Arriving :=
  frameOf .forPart (whole (gtpFrame ownAddr src none 0x9C5E 5 0 0 0x0A21 body)) booted

/-- The body of one request: a READ of one entry of table 0, index 0. -/
def readIdent : List Byte := [1, 1, 0, 0, 0, 0, 1, 1]

theorem witness_ManagementFrameTested :
    (∀ a ∈ [managementFrame serverA readIdent, managementFrame managerAddr [0],
        managementFrame managerAddr readIdent],
      EndsGoodAs .mgmtReq .u noFlow a (receiving .u a booted) ∧ booted.wru.testDue = false) ∧
      requestsOf (gtpBody (managementFrame managerAddr readIdent).settings
        (managementFrame managerAddr readIdent).octets) =
        some [{ kind := 1, table := 0, index := 0, param := [1] }] := by
  decide +kernel

theorem witness_RefusedRequestChangesNothing :
    (execute {} { kind := 9, table := 0, index := 0, param := [] } booted).status = .badOp := by decide

theorem witness_ReadReturnsEntries :
    ∃ l, tableEntries booted 3 = some l ∧ 31 < l.length ∧ 1 ≤ (4 : Byte).toNat ∧ (4 : Byte).toNat ≤ 4 :=
  ⟨_, rfl, by decide, by decide, by decide⟩

theorem witness_FilterRowStoredAsWritten :
    31 < 32 ∧ booted.fcl.filters.length = 32 ∧ booted.fcl.filters[31]? = some ({} : Filter) := by decide

theorem witness_ResetCountersZeroesAll :
    TableSizes booted ∧ ((tableEntries
      (execute {} { kind := 4, table := 0, index := 0, param := [10] } booted).state 5).bind
        fun l => l[8]?).isSome = true := by decide +kernel

theorem witness_PendingSetSwapped : (be 7 0).length = 7 := by decide

end Sys2Proof.Tests
end

section
/-! SUPPORT. The octets of numbers and stamps, what a step of rack time leaves, and the settled statements of
the rack clock. -/

namespace Sys2Proof.Proofs

open Sys2Proof Sys2Proof.Machine Sys2Proof.Safety

/-! ### Octets (Introduction, 4.6) -/

@[simp] theorem be_length (n v : Nat) : (be n v).length = n := by
  induction n with
  | zero => rfl
  | succ n ih => simp [be, ih]

@[simp] theorem beInt_length (n : Nat) (v : Int) : (beInt n v).length = n := be_length n _

@[simp] theorem stampOctets_length (t : Stamp) : t.octets.length = 10 := by
  simp [Stamp.octets]

theorem ofBe_concat (l : List Byte) (b : Byte) : ofBe (l ++ [b]) = ofBe l * 256 + b.toNat := by
  simp [ofBe]

theorem ofBe_cons (b : Byte) (l : List Byte) : ofBe (b :: l) = b.toNat * 256 ^ l.length + ofBe l := by
  induction l using List.reverseRecOn with
  | nil => simp [ofBe]
  | append_singleton l c ih =>
    rw [← List.cons_append, ofBe_concat, ofBe_concat, ih, List.length_append, List.length_singleton, pow_succ]
    ring

theorem ofBe_be (n v : Nat) : ofBe (be n v) = v % 256 ^ n := by
  induction n with
  | zero => simp [be, ofBe, Nat.mod_one]
  | succ n ih =>
    rw [be, ofBe_cons, be_length, ih, BitVec.toNat_ofNat, pow_succ 256 n, Nat.mod_mul]
    ring

theorem ofBe_be_of_lt {n v : Nat} (h : v < 256 ^ n) : ofBe (be n v) = v := by
  rw [ofBe_be, Nat.mod_eq_of_lt h]

/-- Two's complement is read back as written, for a value that fits in the octets. -/
theorem signed_ofBe_beInt {n : Nat} {v : Int} (hlo : -256 ^ n ≤ 2 * v) (hhi : 2 * v < 256 ^ n) :
    signed n (ofBe (beInt n v)) = v := by
  have hM : (0 : Int) < 256 ^ n := by positivity
  have hcast : ((256 ^ n : Nat) : Int) = 256 ^ n := by push_cast; rfl
  have hnn := Int.emod_nonneg v hM.ne'
  have hlt := Int.emod_lt_of_pos v hM
  have hval : v % 256 ^ n = if 0 ≤ v then v else v + 256 ^ n := by
    split
    · exact Int.emod_eq_of_lt ‹_› (by omega)
    · rw [← Int.add_emod_right, Int.emod_eq_of_lt (by omega) (by omega)]
  rw [beInt, ofBe_be_of_lt (by omega), signed]
  split at hval <;> split <;> omega

/-- A stamp is read back from the ten octets it is written in. -/
theorem stampAt_octets (t : Stamp) : stampAt 0 t.octets = t := by
  have hsec : slice 0 6 t.octets = be 6 t.sec.toNat := by
    simp [slice, Stamp.octets]
  have hns : slice 6 4 t.octets = be 4 t.ns.toNat := by
    simp [slice, Stamp.octets, List.take_of_length_le]
  rw [stampAt, field, field, hsec, hns, ofBe_be_of_lt t.sec.isLt, ofBe_be_of_lt t.ns.isLt,
    BitVec.ofNat_toNat, BitVec.ofNat_toNat, BitVec.setWidth_eq, BitVec.setWidth_eq]

/-! ### Clock quality (R15) -/

@[simp] theorem quality_of_not_timeSet {s : State} (h : s.rcu.timeSet = false) : quality s = .unset := by
  simp [quality, h]

/-- Quality is formed from the time-set flag and the discipline state alone. -/
theorem quality_congr {s t : State} (hset : s.rcu.timeSet = t.rcu.timeSet)
    (hstate : s.dse.state = t.dse.state) : quality s = quality t := by
  unfold quality
  rw [hset, hstate]

/-- Settles O11, by the discipline states. -/
theorem qualityFormed : Obligations.QualityFormed := by
  intro s
  refine ⟨fun hset => by rw [quality_of_not_timeSet hset]; rfl, fun hset => ?_⟩
  rw [quality, if_pos hset]
  cases s.dse.state with
  | idle => rfl
  | acquire => rfl
  | locked => rfl
  | holdover => rfl
  | freerun => rfl

/-! ### Offers of a notice -/

/-- Latching clears no pending bit (R118). -/
theorem latch_keeps_set {b i : Nat} {s : State} (hb : b < 54) (h : s.wru.pending.getLsbD i = true) :
    (latch b s).wru.pending.getLsbD i = true := by
  by_cases hi : i = b
  · exact hi ▸ latch_sets b s hb
  · rw [latch_keeps b i s hb hi, h]

/-- An offer clears no pending bit: a refused one latches RING_LOSS (R166). -/
theorem offer_keeps_set {i : Nat} {s : State} (r : Record) (h : s.wru.pending.getLsbD i = true) :
    (offer r s).wru.pending.getLsbD i = true := by
  rcases offer_cases r s with ⟨_, ho⟩ | ⟨_, ho⟩
  · simpa [ho] using h
  · rw [ho]
    exact latch_keeps_set (by decide) h

/-- An admitted record stands last in the ring, under the next sequence number (R164, R165). -/
theorem offer_held {r : Record} {s : State} (h : s.rrg.count < classLimit s.rrg r.body) :
    (offer r s).rrg.held = s.rrg.held ++ [{ r with seq := s.rrg.seq }] := by
  rcases offer_cases r s with ⟨_, ho⟩ | ⟨hfull, _⟩
  · simp [ho, Rrg.write]
  · omega

/-! ### A step of rack time (R9) -/

/-- The counter reads what it was moved to, if that lies in the valid range. -/
theorem moveTo_nanos {n : Nat} (t : TimeCounter)
    (h : n < 281474976710656 * 1000000000) : (t.moveTo n).nanos = n := by
  simp only [TimeCounter.nanos, TimeCounter.moveTo, BitVec.toNat_ofNat]
  omega

@[simp] theorem moveTo_frac (t : TimeCounter) (n : Nat) : (t.moveTo n).frac = t.frac := rfl

@[simp] theorem applyStep_rcu (target : Nat) (s : State) :
    (applyStep target s).rcu =
      { s.rcu with time := s.rcu.time.moveTo target, epoch := s.rcu.epoch + 1, timeSet := true } := by
  simp [applyStep]

@[simp] theorem applyStep_dse (target : Nat) (s : State) :
    (applyStep target s).dse = { s.dse with outstanding := none, held := none } := by
  simp [applyStep, invalidateProbe]

@[simp] theorem applyStep_seq (target : Nat) (s : State) :
    (applyStep target s).rrg.seq = s.rrg.seq + 1 := by
  simp [applyStep]

/-- A step raises STEPPED, pending bit 51. -/
theorem applyStep_sets_stepped (target : Nat) (s : State) :
    (applyStep target s).wru.pending.getLsbD 51 = true := by
  simp only [applyStep, invalidateProbe_frame, rackNotice]
  exact offer_keeps_set _ (latch_sets 51 _ (by decide))

/-- The RACK_NOTICE of a step is dated and rated after it, and carries the change made (R9, R46). -/
theorem applyStep_held {s : State} (target : Nat) (h : s.rrg.count < Config.ringSlots) :
    (applyStep target s).rrg.held = s.rrg.held ++
      [{ quality := quality (applyStep target s), seq := s.rrg.seq
         date := (applyStep target s).rcu.time.stamp
         body := .rack .step s.dse.state s.dse.state ((target : Int) - s.rcu.time.nanos) }] := by
  have hq : quality (applyStep target s) = quality (latch 51 { s with rcu := { s.rcu with
      time := s.rcu.time.moveTo target, epoch := s.rcu.epoch + 1, timeSet := true } }) :=
    quality_congr (by simp) (by simp)
  rw [hq, applyStep_rcu]
  simp only [applyStep, invalidateProbe_frame, rackNotice]
  rw [offer_held (by simpa [classLimit, RecordBody.isStorage] using h)]
  simp

theorem stepInRange_iff (n : Int) (s : State) :
    stepInRange n s = true ↔
      0 ≤ (s.rcu.time.nanos : Int) + n ∧
        (s.rcu.time.nanos : Int) + n < 281474976710656 * 1000000000 := by
  simp only [stepInRange, lastNano, Bool.and_eq_true, decide_eq_true_eq]
  omega

/-- A step by `n` ns that stays in range moves rack time by `n`. -/
theorem applyStep_timeMoved {n : Int} {s : State} (h : stepInRange n s = true) :
    TimeMoved n s (applyStep ((s.rcu.time.nanos : Int) + n).toNat s) := by
  obtain ⟨hlo, hhi⟩ := (stepInRange_iff n s).mp h
  have hamount : (((s.rcu.time.nanos : Int) + n).toNat : Int) - s.rcu.time.nanos = n := by omega
  refine ⟨?_, by simp, by simp, applyStep_sets_stepped _ s, by simp, by simp,
    fun hroom => ?_, by simp [SameBut]⟩
  · rw [applyStep_rcu, moveTo_nanos _ (by omega), Int.toNat_of_nonneg hlo]
  · rw [applyStep_held _ hroom, hamount]

/-! ### STEP and SET_TIME (R10, R12) -/

theorem execute_step {args : List Byte} (h : args.length = 8) (ing : Ingress) (table index : Nat)
    (s : State) :
    execute ing { kind := 4, table := table, index := index, param := 2 :: args } s = doStep args s :=
  if_pos h

theorem execute_setTime {args : List Byte} (h : args.length = 10) (ing : Ingress) (table index : Nat)
    (s : State) :
    execute ing { kind := 4, table := table, index := index, param := 1 :: args } s =
      doSetTime ing args s :=
  if_pos h

/-- Settles O12: both commands read their argument as it was written, and step rack time only in range. -/
theorem stepAndSetTimeMoveTime : Obligations.StepAndSetTimeMoveTime := by
  intro ing table index s
  refine ⟨fun n hlo hhi => ?_, fun g => ?_⟩
  · rw [execute_step (beInt_length 8 n), doStep, signed_ofBe_beInt (by omega) (by omega)]
    simp only [stepInRange_iff]
    split
    · next hrange => exact ⟨rfl, rfl, applyStep_timeMoved ((stepInRange_iff n s).mpr hrange)⟩
    · rfl
  · rw [execute_setTime (stampOctets_length g), doSetTime, stampAt_octets]
    dsimp only
    split
    · rfl
    split
    · rfl
    split
    · next hrange =>
      obtain ⟨hlo, hhi, hrange⟩ := hrange
      rw [if_neg (by omega), if_pos ((stepInRange_iff _ s).mpr hrange)]
      exact ⟨rfl, rfl, applyStep_timeMoved ((stepInRange_iff _ s).mpr hrange)⟩
    · next hout =>
      split
      · rfl
      · rw [if_neg (by rw [stepInRange_iff]; omega)]
        rfl

end Sys2Proof.Proofs
end

section
/-! SUPPORT. How a counter adds, what RESET_DATING leaves in each part of the state, and the settled statement
of the dating of storage events. -/

namespace Sys2Proof.Proofs

open Sys2Proof Sys2Proof.Machine Sys2Proof.Safety

/-! ### Counters (Introduction, 4.2) -/

theorem addCount_toNat (c : Counter) (n : Nat) :
    (addCount c n).toNat = min (c.toNat + n) 4294967295 := by
  rw [addCount, saturate32, BitVec.toNat_ofNat]
  omega

/-! ### RESET_DATING (R153) -/

/-- DO with code 8 and no argument executes RESET_DATING, whatever table and index the request names. -/
theorem execute_resetDating (ing : Ingress) (table index : Nat) (s : State) :
    execute ing { kind := 4, table := table, index := index, param := [8] } s = doResetDating s := rfl

@[simp] theorem doResetDating_status (s : State) : (doResetDating s).status = .ok := rfl

@[simp] theorem doResetDating_data (s : State) :
    (doResetDating s).data = be 2 (s.dte.exchanges.countP Option.isSome) := rfl

@[simp] theorem doResetDating_exchanges (s : State) :
    (doResetDating s).state.dte.exchanges = List.replicate s.dte.exchanges.length none :=
  List.map_const' ..

@[simp] theorem doResetDating_discarded (s : State) :
    (doResetDating s).state.dte.discarded =
      addCount s.dte.discarded (s.dte.exchanges.countP Option.isSome) := rfl

@[simp] theorem doResetDating_profiles (s : State) :
    (doResetDating s).state.dte.profiles = s.dte.profiles := rfl

/-- RESET_DATING works in the dating engine alone: the ring in particular is offered no record. -/
theorem doResetDating_sameBut (s : State) : SameBut [.dte] s (doResetDating s).state := by
  simp [SameBut, doResetDating]

/-- Settles O42: every entry is replaced by a FREE one, and those that were OPEN are counted. -/
theorem resetDatingDiscards : Obligations.ResetDatingDiscards := by
  intro ing table index s n d
  have hd : d = doResetDating s := execute_resetDating ing table index s
  rw [hd]
  refine ⟨doResetDating_status s, doResetDating_data s, fun e he => ?free, ?length, ?discarded,
    doResetDating_profiles s, doResetDating_sameBut s⟩
  case free =>
    rw [doResetDating_exchanges] at he
    exact List.eq_of_mem_replicate he
  case length => rw [doResetDating_exchanges, List.length_replicate]
  case discarded => rw [doResetDating_discarded, addCount_toNat]

end Sys2Proof.Proofs
end

section
/-! SUPPORT. Pressure over an empty ring, what a flush leaves in each part of the ring, and the settled
statement of RING_FLUSH. -/

namespace Sys2Proof.Proofs

open Sys2Proof Sys2Proof.Machine Sys2Proof.Safety

/-! ### Pressure (R167) -/

/-- An empty ring is never above its low mark, and it does not reach a positive high mark. -/
theorem pressureAfter_zero {high : Nat} (h : 0 < high) (before : Bool) (low : Nat) :
    pressureAfter before 0 high low = false := by
  cases before with
  | true => exact decide_eq_false (Nat.not_lt_zero low)
  | false => exact decide_eq_false (Nat.not_le.mpr h)

/-- Only an onset of pressure is counted. -/
theorem decidePressure_ctr_of_pressure_off {s : State} (h : (decidePressure s).rrg.pressure = false) :
    (decidePressure s).rrg.ctr = s.rrg.ctr := by
  rw [decidePressure_pressure] at h
  simp [decidePressure, h]

/-! ### The flush (R171) -/

@[simp] theorem flushRing_held (s : State) : (flushRing s).rrg.held = [] := rfl

@[simp] theorem flushRing_count (s : State) : (flushRing s).rrg.count = 0 := rfl

@[simp] theorem flushRing_oldest (s : State) : (flushRing s).rrg.oldest = s.rrg.next := rfl

@[simp] theorem flushRing_next (s : State) : (flushRing s).rrg.next = s.rrg.next := rfl

@[simp] theorem flushRing_seq (s : State) : (flushRing s).rrg.seq = s.rrg.seq := rfl

theorem flushRing_pressure {s : State} (h : 0 < s.rrg.highMark) :
    (flushRing s).rrg.pressure = false :=
  pressureAfter_zero h s.rrg.pressure s.rrg.lowMark

theorem flushRing_ctr {s : State} (h : 0 < s.rrg.highMark) :
    (flushRing s).rrg.ctr =
      { s.rrg.ctr with flushed := addCount s.rrg.ctr.flushed s.rrg.count } :=
  decidePressure_ctr_of_pressure_off (flushRing_pressure h)

/-- A flush works in the ring alone: it makes no due check, so no report is built. -/
theorem flushRing_sameBut (s : State) : SameBut [.rrg] s (flushRing s) := by
  simp [SameBut]

/-! ### RING_FLUSH (R171) -/

/-- DO with code 5 and no argument executes RING_FLUSH, whatever table and index the request names. -/
theorem execute_ringFlush (ing : Ingress) (table index : Nat) (s : State) :
    execute ing { kind := 4, table := table, index := index, param := [5] } s = doFlush s := rfl

/-- Without a report in flight the flush is performed at once, and the response carries deferred no. -/
theorem doFlush_of_inFlight_none {s : State} (h : s.rpe.inFlight = none) :
    doFlush s = { status := .ok, data := be 2 s.rrg.count ++ [0], state := flushRing s } := by
  rw [doFlush, h]
  rfl

/-- Settles O43: the flush is performed at once, and the high mark of a consistent ring is positive, so that
pressure turns off and no onset is counted. -/
theorem ringFlushDiscards : Obligations.RingFlushDiscards := by
  intro ing table index s hring hnone d
  have hd : d = { status := .ok, data := be 2 s.rrg.count ++ [0], state := flushRing s } :=
    (execute_ringFlush ing table index s).trans (doFlush_of_inFlight_none hnone)
  obtain ⟨_, _, _, _, _, htwo, _⟩ := hring
  have hmark : 0 < s.rrg.highMark := Nat.zero_lt_of_lt htwo
  rw [hd]
  exact ⟨rfl, rfl, flushRing_held s, flushRing_count s, flushRing_oldest s, flushRing_next s,
    flushRing_seq s, flushRing_pressure hmark, flushRing_ctr hmark, flushRing_sameBut s⟩

end Sys2Proof.Proofs
end

section
/-! SUPPORT. The entries of a table from an index on, what a READ of an entry that exists comes to, and the
settled statement of the READ of a table. -/

namespace Sys2Proof.Proofs

open Sys2Proof Sys2Proof.Machine

/-! ### One octet, and the entries from an index on -/

theorem be_one (v : Nat) : be 1 v = [BitVec.ofNat 8 v] := by
  simp [be]

theorem ofBe_singleton (b : Byte) : ofBe [b] = b.toNat := by
  simp [ofBe]

/-- The entries from an index on, at most `c` of them, named one by one. -/
theorem take_drop_eq_map_getD {α : Type} (l : List α) (i c : Nat) (d : α) :
    (l.drop i).take c = (List.range (min c (l.length - i))).map fun k => l.getD (i + k) d := by
  refine List.ext_getElem (by simp) fun k hk _ => ?_
  have hin : i + k < l.length := by
    rw [List.length_take, List.length_drop] at hk
    omega
  simp [hin]

/-! ### READ (R202, R203) -/

/-- A READ whose table and index name an entry passes the checks of R202 and comes to `doRead`. -/
theorem execute_read {s : State} {table index : Nat} {l : List (List Byte)}
    (htable : tableEntries s table = some l) (hindex : index < l.length) (ing : Ingress)
    (param : List Byte) :
    execute ing { kind := 1, table := table, index := index, param := param } s =
      doRead l index param s := by
  simp [execute, doEntry, htable, List.getElem?_eq_getElem hindex]

/-- The count is one octet; from 1 to 4 it is taken, and the state is left as it was. -/
theorem doRead_of_count {count : Byte} (hlo : 1 ≤ count.toNat) (hhi : count.toNat ≤ 4)
    (l : List (List Byte)) (i : Nat) (s : State) :
    doRead l i [count] s =
      { status := .ok
        data := be 1 ((l.drop i).take count.toNat).length ++ ((l.drop i).take count.toNat).flatten
        state := s } := by
  rw [doRead, ofBe_singleton, if_pos ⟨List.length_singleton, hlo, hhi⟩]

/-- Settles O57: the first octet of the data counts the entries taken, and after it stand those at the
positions from the index on, in ascending order. -/
theorem readReturnsEntries : Obligations.ReadReturnsEntries := by
  intro ing table index count s l htable hindex hlo hhi d n
  have hd : d = _ := (execute_read htable hindex ing [count]).trans (doRead_of_count hlo hhi l index s)
  have hlength : ((l.drop index).take count.toNat).length = n := by
    rw [List.length_take, List.length_drop]
  rw [hd]
  refine ⟨rfl, rfl, ?data⟩
  case data =>
    rw [hlength, be_one, take_drop_eq_map_getD l index count.toNat []]
    rfl

end Sys2Proof.Proofs
end

section
/-! SUPPORT. The octets of a field, the boot record and the rack clock's own events, with the settled
statements of reset, boot and rack clock. -/

namespace Sys2Proof.Proofs

open Sys2Proof Sys2Proof.Machine Sys2Proof.Safety

/-! ### The queue of commands -/

/-- Settles O1, by the two cases of the queue. -/
theorem stepRunsFrontCommand : Obligations.StepRunsFrontCommand := by
  intro c rest s
  exact ⟨fun h => by rw [step, h], fun h => by rw [step, h]⟩

/-! ### Fields of octets -/

theorem slice_append_left {a : List Byte} {n : Nat} (b : List Byte) (h : a.length = n) :
    slice 0 n (a ++ b) = a := by
  subst h
  simp [slice]

theorem slice_append_right {a : List Byte} {o : Nat} (k n : Nat) (b : List Byte) (h : a.length = o) :
    slice (o + k) n (a ++ b) = slice k n b := by
  subst h
  rw [slice, List.drop_append, List.drop_of_length_le (by omega), Nat.add_sub_cancel_left, slice]
  rfl

/-- A number written in `n` octets after `o` others is read back from its place. -/
theorem field_be {a : List Byte} {o n v : Nat} (b : List Byte) (ho : a.length = o) (hv : v < 256 ^ n) :
    field o n (a ++ (be n v ++ b)) = v := by
  rw [field, ← Nat.add_zero o, slice_append_right 0 n _ ho, slice_append_left b (be_length n v),
    ofBe_be_of_lt hv]

/-- A field that lies wholly in the first part of some octets is read from that part. -/
theorem field_append_left {a : List Byte} {o n : Nat} (b : List Byte) (h : o + n ≤ a.length) :
    field o n (a ++ b) = field o n a := by
  rw [field, field, slice, slice, List.drop_append_of_le_length (by omega),
    List.take_append_of_le_length (by rw [List.length_drop]; omega)]

theorem field_one {l : List Byte} {o : Nat} (h : o < l.length) : field o 1 l = (l.getD o 0).toNat := by
  have hs : slice o 1 l = [l[o]] := by rw [slice, List.drop_eq_getElem_cons h]; rfl
  simp [field, hs, ofBe, h]

theorem field_two {l : List Byte} {o : Nat} (h : o + 1 < l.length) :
    field o 2 l = (l.getD o 0).toNat * 256 + (l.getD (o + 1) 0).toNat := by
  have h0 : o < l.length := by omega
  have hs : slice o 2 l = [l[o], l[o + 1]] := by
    rw [slice, List.drop_eq_getElem_cons h0, List.drop_eq_getElem_cons h]; rfl
  simp [field, hs, ofBe, h, h0]

/-! ### Reset (R20, R213) -/

/-- The copy of an originated frame that is cut off: the octets that left, with a forced bad end (R199). -/
theorem cutOff_own {e : Egm} {src : Source} {o : List Byte} {k : Nat} (h : e.egress = some (.own src o k)) :
    e.cutOff = some (departAs .forcedBad (o.take k)) := by
  rw [Egm.cutOff, h]

/-- A frame in egress is cut off with a forced bad check sequence, of whatever kind it is (R199). -/
theorem cutOff_check {e : Egm} (h : e.egress.isSome) :
    e.cutOff.map Departed.check = some .forcedBad := by
  unfold Egm.cutOff
  split
  · next hnone => simp [hnone] at h
  · rfl
  · rfl

theorem hardReset_port (s : State) (p : Port) : (hardReset s).port p = (s.port p).afterReset := by
  cases p <;> rfl

/-- Settles O3: all but the ports is the state after reset. -/
theorem hardResetValues : Obligations.HardResetValues := by
  intro s
  have hport (p : Port) : ((hardReset s).port p).link = (s.port p).link ∧
      ((hardReset s).port p).buffer = [] ∧ ((hardReset s).port p).queue = [] ∧
      ((hardReset s).port p).deferMark = 16384 ∧ ((hardReset s).port p).egress = none ∧
      ((hardReset s).port p).ctr = ⟨0, 0, 0, 0, 0, 0, 0⟩ ∧
      ((s.port p).egress.isSome →
        ((hardReset s).port p).departed.map Departed.check = some CheckSequence.forcedBad) ∧
      (∀ src o k, (s.port p).egress = some (.own src o k) →
        ((hardReset s).port p).departed.map Departed.octets =
          some (o.take k ++ forcedBadSequence (o.take k))) := by
    rw [hardReset_port]
    refine ⟨rfl, rfl, rfl, rfl, rfl, rfl, cutOff_check, fun src o k h => ?_⟩
    simp [Egm.afterReset, cutOff_own h, departAs, CheckSequence.after]
  refine ⟨hardReset s, rfl, ?_⟩
  simp only [and_true, true_and, hardReset, State.reset]
  exact hport

/-- Settles O4: the release has no other branch while the reset input is asserted. -/
theorem releaseBeginsBootRead : Obligations.ReleaseBeginsBootRead := by
  intro s h
  simp [exec, execResetInputRelease, h]

/-! ### The boot record (R213 to R215, 12.7) -/

/-- The first 21 octets of a boot record, which its check value is computed over (12.7). -/
def bootBody (own manager : Address) (rack timeType storageType : BitVec 16) : List Byte :=
  [0x47, 0x48, 1] ++ be 6 own.toNat ++ be 6 manager.toNat ++ be 2 rack.toNat ++ be 2 timeType.toNat ++
    be 2 storageType.toNat

@[simp] theorem bootBody_length (own manager : Address) (rack timeType storageType : BitVec 16) :
    (bootBody own manager rack timeType storageType).length = 21 := by
  simp [bootBody]

/-- The settings stand in the body of a record at the places that MGU reads them from. -/
theorem bootSettings_bootBody (own manager : Address) (rack timeType storageType : BitVec 16)
    (rest : List Byte) (t : Station) :
    bootSettings (bootBody own manager rack timeType storageType ++ rest) t =
      { t with own := if own.getLsbD 40 then 0 else own, manager := manager, rackId := rack
               timeType := timeType, storageType := storageType } := by
  have hown : field 3 6 (bootBody own manager rack timeType storageType ++ rest) = own.toNat := by
    simp only [bootBody, List.append_assoc]
    exact field_be (a := [0x47, 0x48, 1]) _ rfl own.isLt
  have hmanager : field 9 6 (bootBody own manager rack timeType storageType ++ rest) = manager.toNat := by
    simp only [bootBody, List.append_assoc]
    exact field_be (o := 9) (n := 6) (a := [0x47, 0x48, 1] ++ be 6 own.toNat) _ (by simp) manager.isLt
  have hrack : field 15 2 (bootBody own manager rack timeType storageType ++ rest) = rack.toNat := by
    rw [bootBody, List.append_assoc, List.append_assoc, List.append_assoc]
    exact field_be _ (by simp) rack.isLt
  have htime : field 17 2 (bootBody own manager rack timeType storageType ++ rest) = timeType.toNat := by
    rw [bootBody, List.append_assoc, List.append_assoc]
    exact field_be _ (by simp) timeType.isLt
  have hstorage :
      field 19 2 (bootBody own manager rack timeType storageType ++ rest) = storageType.toNat := by
    rw [bootBody, List.append_assoc]
    exact field_be _ (by simp) storageType.isLt
  simp only [bootSettings, hown, hmanager, hrack, htime, hstorage, BitVec.ofNat_toNat, BitVec.setWidth_eq,
    isGroup]

/-- A record of 32 octets whose marker, version and check value stand in their places is good. -/
theorem bootRecordGood_bootBody (own manager : Address) (rack timeType storageType : BitVec 16)
    {tail : List Byte} (h : tail.length = 9) :
    bootRecordGood (bootBody own manager rack timeType storageType ++
      (be 2 (((bootBody own manager rack timeType storageType).map BitVec.toNat).sum % 65536) ++ tail)) =
      true := by
  have hcheck := field_be (n := 2)
    (v := ((bootBody own manager rack timeType storageType).map BitVec.toNat).sum % 65536)
    tail (bootBody_length own manager rack timeType storageType) (Nat.mod_lt _ (by decide))
  rw [bootRecordGood, hcheck, List.take_append_of_le_length (by simp),
    List.take_of_length_le (by simp)]
  simp [h, field, slice, bootBody, ofBe]

/-- Settles O5: the record is good, and each setting is read from the place it was written to. -/
theorem bootRecordTaken : Obligations.BootRecordTaken := by
  intro own manager rack timeType storageType tail s htail hreading body o
  have ho : o = bootBody own manager rack timeType storageType ++ (be 2 ((body.map BitVec.toNat).sum % 65536) ++ tail) :=
    List.append_assoc ..
  have hgood : bootRecordGood o = true := ho ▸ bootRecordGood_bootBody own manager rack timeType storageType htail
  have hset := bootSettings_bootBody own manager rack timeType storageType
    (be 2 ((body.map BitVec.toNat).sum % 65536) ++ tail) s.mgu.station
  rw [← ho] at hset
  simp only [exec, execBootReadEnd, hreading, judgeBoot, hgood, hset, bootDone, if_true]

/-- A record is good only with its marker, version, length and check value (R214). -/
theorem bootRecordGood_spec {o : List Byte} (h : bootRecordGood o = true) :
    o.take 3 = [0x47, 0x48, 1] ∧ o.length = 32 ∧
      (o.getD 21 0).toNat * 256 + (o.getD 22 0).toNat = ((o.take 21).map BitVec.toNat).sum % 65536 := by
  simp only [bootRecordGood, Bool.and_eq_true, beq_iff_eq] at h
  obtain ⟨⟨⟨⟨hlen, h0⟩, h1⟩, h2⟩, hcheck⟩ := h
  rw [field_two (by omega)] at hcheck
  rw [field_one (by omega)] at h0 h1 h2
  refine ⟨?_, hlen, hcheck⟩
  rcases o with _ | ⟨a, _ | ⟨b, _ | ⟨c, rest⟩⟩⟩
  · simp at hlen
  · simp at hlen
  · simp at hlen
  have ha : a = 0x47 := BitVec.eq_of_toNat_eq h0
  have hb : b = 0x48 := BitVec.eq_of_toNat_eq h1
  have hc : c = 1 := BitVec.eq_of_toNat_eq h2
  rw [ha, hb, hc]
  rfl

theorem bootTimedOut_iff {s : State} {since : Uptime} (h : s.mgu.readSince = some since) :
    bootTimedOut s = true ↔ 6250000 ≤ (s.rcu.uptime - since).toNat := by
  rw [bootTimedOut, h]
  exact decide_eq_true_iff

/-- Settles O6: such a record is not good, and no reply is judged as one. -/
theorem bootDefaultsTaken : Obligations.BootDefaultsTaken := by
  intro s since o hreading hsince hbad t
  have hboot : bootReading s = true := by simp [bootReading, hreading, hsince]
  have hnot : bootRecordGood o = false := by
    rw [Bool.eq_false_iff]
    intro hgood
    obtain ⟨hmark, hlen, hcheck⟩ := bootRecordGood_spec hgood
    rcases hbad with h | h | h
    · exact h hmark
    · exact h hlen
    · exact h hcheck
  refine ⟨?_, ?_, ?_⟩
  · simp only [exec, execBootReadEnd, hboot, judgeBoot, if_true]
    rfl
  · simp only [exec, execBootReadEnd, hboot, judgeBoot, hnot, if_true]
    rfl
  · simp only [exec, execBootReadTimeout, hboot, Bool.true_and, bootTimedOut_iff hsince, judgeBoot]
    exact (apply_ite Host.Outcome.next _ _ _).symm

/-! ### The rack clock's own events (R1, R4, R17, R18) -/

theorem timerReached_some_iff (now due : Uptime) :
    timerReached now (some due) = true ↔ (now - due).toNat < 2 ^ 63 := decide_eq_true_iff

/-- Settles O9, by whether the expiry is reached. -/
theorem pulseReleased : Obligations.PulseReleased := by
  intro s due h
  simp only [exec, execPulseWidthExpiry, h, timerReached_some_iff]
  exact (apply_ite Host.Outcome.next _ _ _).symm

/-- Without a phase term the applied rate is F itself. -/
theorem appliedRate_zero {f : Int} (hlo : -Config.rateLimit ≤ f) (hhi : f ≤ Config.rateLimit) :
    appliedRate f 0 = f := by
  rw [appliedRate, Int.add_zero, clampInt_of_mem _ _ _ hlo hhi]

/-- Settles O10: F lies in the range of A, so the clamp leaves it. -/
theorem phaseWindowEnds : Obligations.PhaseWindowEnds := by
  intro s due hrate htimer hdue
  obtain ⟨hlo, hhi, _⟩ := hrate
  simp only [exec, execPhaseTimerExpiry, htimer, timerReached, hdue, recomputeRate,
    appliedRate_zero hlo hhi, increment, if_true]

/-- K lies well within a tick's 8 ns, because A lies within the rate limit (R2, 1.1). -/
theorem increment_bounds {a : Int} (hlo : -Config.rateLimit ≤ a) (hhi : a ≤ Config.rateLimit) :
    -6871948 ≤ increment a ∧ increment a ≤ 6871948 := by
  simp only [increment, roundDiv, Config.rateLimit] at *
  split <;> omega

theorem rateConsistent_k_bounds {s : State} (h : RateConsistent s) :
    -6871948 ≤ s.rcu.k ∧ s.rcu.k ≤ 6871948 := by
  obtain ⟨_, _, ha, hk⟩ := h
  have hmem := appliedRate_mem s.rcu.f s.rcu.s
  rw [hk, ha]
  exact increment_bounds hmem.1 hmem.2

theorem secondCarry_iff (t : TimeCounter) (k : Int) :
    secondCarry t k = true ↔ 1000000000 * 4294967296 ≤ tickSum t k := decide_eq_true_iff

/-- A tick adds less than a second, so rest and carry stay in range (R1). -/
theorem tick_spec {t : TimeCounter} {k : Int} (hns : t.ns.toNat < 1000000000) (hlo : -6871948 ≤ k)
    (hhi : k ≤ 6871948) :
    (timeUnits (t.tick k) : Int) = ((timeUnits t : Int) + (8 * 4294967296 + k)) %
        (281474976710656 * 1000000000 * 4294967296) ∧
      (t.tick k).ns.toNat < 1000000000 ∧
      (t.tick k).sec = if secondCarry t k then t.sec + 1 else t.sec := by
  have hfrac := t.frac.isLt
  have hsec := t.sec.isLt
  have hinc : (tickIncrement k : Int) = 34359738368 + k := by
    rw [tickIncrement]
    omega
  refine ⟨?_, ?_, rfl⟩
  · simp only [timeUnits, TimeCounter.nanos, TimeCounter.tick, secondCarry_iff, BitVec.toNat_ofNat]
    rw [tickSum]
    split
    · rw [BitVec.toNat_add, show (1 : BitVec 48).toNat = 1 from rfl]
      omega
    · omega
  · simp only [TimeCounter.tick, secondCarry_iff, BitVec.toNat_ofNat]
    rw [tickSum]
    split <;> omega

theorem exec_oscillatorTick {s : State} (h : s.resetHeld = false) :
    exec .oscillatorTick s = .next (if pulseBegins s then startPulse (tickCounters s) else tickCounters s) := by
  simp [exec, execOscillatorTick, h]

theorem startPulse_rcu (s : State) :
    (startPulse s).rcu = { s.rcu with
      pulse := true, pulseTimer := some (s.rcu.uptime + 12500000) } := rfl

theorem tickCounters_rcu (s : State) :
    (tickCounters s).rcu = { s.rcu with
      time := s.rcu.time.tick s.rcu.k, uptime := s.rcu.uptime + 1 } := rfl

/-- The rack clock after a tick: a pulse that begins touches the output and its timer alone. -/
theorem ticked_rcu (s : State) :
    (if pulseBegins s then startPulse (tickCounters s) else tickCounters s).rcu =
      { s.rcu with
        time := s.rcu.time.tick s.rcu.k
        uptime := s.rcu.uptime + 1
        pulse := pulseBegins s || s.rcu.pulse
        pulseTimer := if pulseBegins s then some (s.rcu.uptime + 1 + 12500000) else s.rcu.pulseTimer } := by
  by_cases hp : pulseBegins s = true
  · rw [if_pos hp, startPulse_rcu, tickCounters_rcu, hp]
    generalize s.rcu.time.tick s.rcu.k = ticked
    rfl
  · rw [if_neg hp, tickCounters_rcu, Bool.eq_false_iff.mpr hp]
    generalize s.rcu.time.tick s.rcu.k = ticked
    rfl

theorem ticked_sameBut (s : State) :
    SameBut [.rcu] s (if pulseBegins s then startPulse (tickCounters s) else tickCounters s) := by
  split <;> simp [SameBut]

/-- Settles O7: A lies within the rate limit, so that K does not turn a tick back or make it a second. -/
theorem tickAddsIncrement : Obligations.TickAddsIncrement := by
  intro s htime hrate hheld
  obtain ⟨hlo, hhi⟩ := rateConsistent_k_bounds hrate
  obtain ⟨hunits, hns, _⟩ := tick_spec htime hlo hhi
  refine ⟨_, exec_oscillatorTick hheld, ?_⟩
  simp only [TimeValid, ticked_rcu]
  exact ⟨hunits, hns, trivial, trivial, trivial, trivial, trivial, trivial, trivial, trivial, ticked_sameBut s⟩

/-- The seconds change exactly at a second carry. -/
theorem tick_sec_ne_iff {t : TimeCounter} {k : Int} :
    (t.tick k).sec ≠ t.sec ↔ secondCarry t k = true := by
  cases hc : secondCarry t k <;> simp [TimeCounter.tick, hc]

theorem pulseBegins_iff (s : State) :
    pulseBegins s = true ↔ secondCarry s.rcu.time s.rcu.k = true ∧ s.rcu.pulse = false ∧
      s.rcu.pulseFloor.code ≤ (quality s).code := by
  simp [pulseBegins, and_assoc]

/-- Settles O8: a pulse begins by the same test, the second carry read from the seconds. -/
theorem secondPulseBegins : Obligations.SecondPulseBegins := by
  intro s _ _ hheld
  refine ⟨_, exec_oscillatorTick hheld, ?_⟩
  beta_reduce
  simp only [ticked_rcu, tick_sec_ne_iff, ← pulseBegins_iff]
  cases pulseBegins s <;> simp

/-! ### The state after reset -/

/-- A table without entries lists nothing. -/
theorem filterMap_replicate_none {α β : Type} (n : Nat) (f : α → β) :
    (List.replicate n (none : Option α)).filterMap (fun e => e.map f) = [] :=
  List.filterMap_eq_nil_iff.mpr fun e he => by rw [List.eq_of_mem_replicate he]; rfl

theorem reset_slotPort (n : Fin 8) : slotPort State.reset n.val = none := by
  revert n
  decide

theorem reset_queuesConsistent : QueuesConsistent State.reset := by
  have hslot (n : Fin 8) : NamedOn (.slot n.val) (slotPort State.reset n.val) State.reset := by
    simp only [NamedOn, reset_slotPort]
    exact ⟨rfl, rfl⟩
  have hqueue (p : Port) : QueueAgrees State.reset p := by
    cases p <;> exact ⟨rfl, fun _ => ⟨rfl, rfl⟩, fun e he => absurd he List.not_mem_nil, rfl, rfl⟩
  exact ⟨rfl, hslot, ⟨rfl, rfl⟩, ⟨rfl, rfl⟩, ⟨rfl, rfl⟩, hqueue .u, hqueue .k⟩

theorem reset_conditionsAgree : ConditionsAgree State.reset := by decide

/-- Settles O26: every table is empty or at its reset value. -/
theorem resetMeetsInvariants : Obligations.ResetMeetsInvariants := by
  have hservers : serverAddresses State.reset = [] := filterMap_replicate_none 48 Server.address
  have hkeys : exchangeKeys State.reset = [] := filterMap_replicate_none 256 Exchange.key
  exact ⟨(by decide : TimeValid State.reset), (by decide : RateConsistent State.reset),
    (by decide : HistoryInRange State.reset), (by decide : HoldoverRateKept State.reset),
    (by decide : DisciplineTimers State.reset), (by decide : RingConsistent State.reset),
    (by decide : PressureConsistent State.reset), trivial, (by decide : AlertLineDriven State.reset),
    ⟨rfl, rfl, rfl, rfl, rfl, List.length_replicate⟩, reset_conditionsAgree,
    by rw [ServersDistinct, hservers]; exact List.nodup_nil,
    by rw [ExchangesDistinct, hkeys]; exact List.nodup_nil, reset_queuesConsistent, rfl⟩

end Sys2Proof.Proofs
end

section
/-! SUPPORT. What a command can do, said once: the elementary effects that every command is a sequence of.
The invariants are proved of each effect, and every operation of the model is shown to be a sequence of
effects. -/

namespace Sys2Proof.Proofs

open Sys2Proof Sys2Proof.Machine Sys2Proof.Safety

/-! ### The words of the effects -/

/-- What of a frame in egress the origination queues agree with: that there is one, and the source of an
originated one. -/
def lineOf : Option InEgress → Option (Option Source)
  | none => none
  | some (.pass _ _) => some none
  | some (.own src _ _) => some (some src)

/-- The port of the answer in a slot that is not FREE. -/
def slotOwner (sl : Slot) : Option Port := sl.answer.map Answer.port

/-- The blocks below the frame path are as they were, and the tables keep their sizes. -/
structure SameCore (s t : State) : Prop where
  rcu : t.rcu = s.rcu
  dse : t.dse = s.dse
  dtr : t.dtr = s.dtr
  wru : t.wru = s.wru
  dte : t.dte = s.dte
  rrg : t.rrg = s.rrg
  rpe : t.rpe = s.rpe
  filters : t.fcl.filters.length = s.fcl.filters.length
  masks : t.fcl.masks.length = s.fcl.masks.length
  slots : t.anu.slots.length = s.anu.slots.length
  pending : t.pending = s.pending

/-- What the origination queues read of a port is as it was. -/
structure SameLine (e e' : Egm) : Prop where
  queue : e'.queue = e.queue
  link : e'.link = e.link
  egress : lineOf e'.egress = lineOf e.egress

/-- The answers, the response and the queues of both ports stand as they were. -/
structure SameOwners (s t : State) : Prop where
  slots : t.anu.slots.map slotOwner = s.anu.slots.map slotOwner
  response : t.mgu.response.map Response.port = s.mgu.response.map Response.port
  ports : ∀ p : Port, SameLine (s.port p) (t.port p)

/-- An F within its range, or the one in force. -/
def FrequencyFits (f : Int) (s : State) : Prop :=
  (-Config.rateLimit ≤ f ∧ f ≤ Config.rateLimit) ∨ f = s.rcu.f

/-- The state in which DSE has entered HOLDOVER, its limit not tested yet (R44). -/
def beginHoldover (s : State) : State :=
  let s' := withdrawPhase (learnedRate s) s
  setDState .holdover { s' with dse := { s'.dse with
    holdoverRate := learnedRate s
    u := saturate32 (s'.dse.lastOffset.getD 0).natAbs
    growthTimer := some (after s'.rcu.uptime Config.ticksPerSecond) } }

/-- The addresses and states of the server table. -/
def picture (l : List (Option Server)) : List (Option (Address × SState)) :=
  l.map fun e => e.map fun sv => (sv.address, sv.state)

/-- An optional notice. -/
def offerSome : Option Record → State → State
  | none, s => s
  | some r, s => offer r s

/-- Entry `i` takes new contents, with the edges of its condition by way of a condition between (R96, R107,
R113). -/
def changeServer (i : Nat) (old new : Server) (mid : Bool) (notice : Option Record) (s : State) : State :=
  let s1 := setServer i (some new) s
  let s2 := giveChange i (warns s.dtr.settings.silentWarn old.state) mid old.select s1
  giveChange i mid (warns s.dtr.settings.silentWarn new.state) old.select (offerSome notice s2)

/-- The reserve and the marks of a ring change, and pressure is decided again (R167 to R169). -/
def setMarks (reserve high low : Nat) (s : State) : State :=
  decidePressure { s with rrg := { s.rrg with reserve := reserve, highMark := high, lowMark := low } }

/-- The report that ended takes its records with it (R170, R183). -/
def deliverReport (s : State) : State :=
  clearReport (decidePressure { s with rrg := s.rrg.remove (inFlightCount s) })

/-! ### The effects -/

/-- One elementary effect. A `loose` one may also change what the origination queues have to agree with. -/
inductive Effect (loose : Bool) : State → State → Prop
  /-- The frame path, the answers, the ports and the management frame. -/
  | plain {s t : State} (core : SameCore s t) (owners : loose = true ∨ SameOwners s t) : Effect loose s t
  /-- RCU but for F, S, A and K. -/
  | clock {s : State} (r : Rcu) (f : r.f = s.rcu.f) (sterm : r.s = s.rcu.s) (a : r.a = s.rcu.a)
      (k : r.k = s.rcu.k)
      (valid : TimeValid s → RateConsistent s → r.time.ns.toNat < 1000000000) :
      Effect loose s { s with rcu := r }
  /-- F and S, with A and K recomputed (R2 to R4). -/
  | rate {s : State} (f g : Int) (timer : Option Uptime) (fits : FrequencyFits f s)
      (still : s.dse.state = .idle ∨ s.dse.state = .holdover ∨ s.dse.state = .freerun → g = 0 ∨ g = s.rcu.s)
      (learned : s.dse.state = .holdover ∨ s.dse.state = .freerun → f = s.rcu.f) :
      Effect loose s (recomputeRate { s with rcu := { s.rcu with f := f, s := g, phaseTimer := timer } })
  /-- DSE but for its state, its rates and whether its timers run. -/
  | dse {s : State} (d : Dse) (state : d.state = s.dse.state) (history : d.history = s.dse.history)
      (holdoverRate : d.holdoverRate = s.dse.holdoverRate)
      (probeTimer : d.probeTimer.isSome = s.dse.probeTimer.isSome)
      (growthTimer : d.growthTimer.isSome = s.dse.growthTimer.isSome)
      (outstanding : d.outstanding.isSome = true →
        s.dse.outstanding.isSome = true ∨ s.dse.probeTimer.isSome = true)
      (frame : loose = true ∨ d.frame = s.dse.frame) : Effect loose s { s with dse := d }
  /-- F is pushed onto the rate history (R43). -/
  | history {s : State} : Effect loose s
      { s with dse := { s.dse with history := (s.rcu.f :: s.dse.history).take 4 } }
  /-- DSE enters HOLDOVER from LOCKED (R44). -/
  | holdover {s : State} (locked : s.dse.state = .locked) : Effect loose s (beginHoldover s)
  /-- DSE enters FREERUN from HOLDOVER (R45). -/
  | freerun {s : State} (holdover : s.dse.state = .holdover) :
      Effect loose s (setDState .freerun { s with dse := { s.dse with growthTimer := none } })
  /-- DSE enters ACQUIRE or LOCKED, and not from IDLE (R36, R41, R42). -/
  | serve {s : State} (new : DState) (timer : Option Uptime) (serves : new = .acquire ∨ new = .locked)
      (runs : s.dse.state ≠ .idle)
      (stopped : timer = none ∨ timer = s.dse.growthTimer ∧ s.dse.state ≠ .holdover) :
      Effect loose s (setDState new { s with dse := { s.dse with growthTimer := timer } })
  /-- DISCIPLINE_START (R23). -/
  | start {s : State} : Effect loose s (startDiscipline s)
  /-- DISCIPLINE_STOP (R24). -/
  | stop {s : State} : Effect loose s (stopDiscipline s)
  /-- DTR but for the addresses and states of its entries, silent-warn and the majority. -/
  | dtr {s : State} (d : Dtr) (servers : picture d.servers = picture s.dtr.servers)
      (silentWarn : d.settings.silentWarn = s.dtr.settings.silentWarn)
      (majority : d.majority = s.dtr.majority) : Effect loose s { s with dtr := d }
  /-- The majority is formed anew (R112). -/
  | majority {s : State} : Effect loose s (recomputeMajority s)
  /-- An EMPTY entry takes a server that no entry holds (R93, R94). -/
  | newServer {s : State} (i : Nat) (sv : Server) (empty : serverAt i s = none)
      (probation : sv.state = .probation) (unheld : findServer sv.address s = none) :
      Effect loose s (setServer i (some sv) s)
  /-- An entry changes, its address kept. -/
  | server {s : State} (i : Nat) (old new : Server) (mid : Bool) (notice : Option Record)
      (held : serverAt i s = some old) (address : new.address = old.address) :
      Effect loose s (changeServer i old new mid notice s)
  /-- An entry becomes EMPTY (R95, R108). -/
  | clear {s : State} (i : Nat) (sv : Server) (cause : ServerCause) (held : serverAt i s = some sv) :
      Effect loose s (clearServer i sv cause s)
  /-- Silent-warn takes a new value (R111). -/
  | silentWarn {s : State} (on : Bool) : Effect loose s (setSilentWarn on s)
  /-- WRU but for the condition set, the line decided whenever it has to be (R122). -/
  | wru {s : State} (w : Wru) (condition : w.condition = s.wru.condition)
      (line : w.alertLine = lineAsserted w.pending w.lineMask ∨
        w.alertLine = s.wru.alertLine ∧ w.pending = s.wru.pending ∧ w.lineMask = s.wru.lineMask)
      (alert : loose = true ∨ w.alert = s.wru.alert) : Effect loose s { s with wru := w }
  /-- An alert is built (R124). -/
  | alert {s : State} (can : alertCanBuild s = true) : Effect loose s (buildAlert s)
  /-- DTE, its OPEN keys still distinct. -/
  | dte {s : State} (d : Dte) (profiles : d.profiles.length = s.dte.profiles.length)
      (exchanges : d.exchanges.length = s.dte.exchanges.length)
      (distinct : ExchangesDistinct s → ExchangesDistinct { s with dte := d }) :
      Effect loose s { s with dte := d }
  /-- The sequence counter and the counters of the ring (R164, R166, R175). -/
  | ringCount {s : State} (seq : Seq) (ctr : RrgCounters) :
      Effect loose s { s with rrg := { s.rrg with seq := seq, ctr := ctr } }
  /-- A record is written (R158, R165). -/
  | write {s : State} (r : Record) (room : s.rrg.count < classLimit s.rrg r.body) :
      Effect loose s (decidePressure { s with rrg := s.rrg.write r })
  /-- The ring is flushed (R171). -/
  | flush {s : State} (idle : s.rpe.inFlight = none) : Effect loose s (flushRing s)
  /-- The reserve and the marks change (R168, R169). -/
  | marks {s : State} (reserve high low : Nat)
      (fit : RingConsistent s → reserve ≤ 256 ∧ 2 ≤ high ∧ high ≤ Config.ringSlots - reserve ∧ 1 ≤ low ∧
        low < high) : Effect loose s (setMarks reserve high low s)
  /-- RPE but for the report in flight. -/
  | rpe {s : State} (r : Rpe) (inFlight : r.inFlight = s.rpe.inFlight ∨ loose = true ∧
      (r.inFlight = none ∨ r.inFlight = s.rpe.inFlight.map fun x => { x with sending := true })) :
      Effect loose s { s with rpe := r }
  /-- A report is built (R181). -/
  | report {s : State} (can : reportCanBuild s = true) : Effect loose s (buildReport s)
  /-- A PROBE frame is queued, where DSE has none in a queue (R26). -/
  | probe {s : State} (f : ProbeFrame) (unqueued : s.dse.frame = none) (up : (s.port f.port).link = true) :
      Effect loose s (pushEntry f.port .probe { s with dse := { s.dse with frame := some f } })
  /-- The PROBE frame still QUEUED is withdrawn (R26). -/
  | withdraw {s : State} (queued : probeInEgress s = false) : Effect loose s (withdrawProbe s)
  /-- The records of the report that ended leave the ring (R170, R183). -/
  | deliver {s : State} (told : loose = true) : Effect loose s (deliverReport s)
  /-- Soft reset (R211). -/
  | softReset {s : State} (told : loose = true) : Effect loose s (softReset s)
  /-- Hard reset (R213). -/
  | hardReset {s : State} (told : loose = true) : Effect loose s (hardReset s)

/-- A sequence of effects. -/
abbrev Effects (loose : Bool) : State → State → Prop := Relation.ReflTransGen (Effect loose)

/-- The last effects named first, so that what comes before them is known from where they begin. -/
theorem Effects.after {loose : Bool} {s t u : State} (last : Effects loose t u) (first : Effects loose s t) :
    Effects loose s u := first.trans last

/-- What holds of a state and is kept by every effect holds after a sequence of them. -/
theorem Effects.keeps {loose : Bool} {P : State → Prop}
    (h : ∀ s t, Effect loose s t → P s → P t) {s t : State} (he : Effects loose s t) (hs : P s) : P t := by
  induction he with
  | refl => exact hs
  | tail _ e ih => exact h _ _ e ih

/-- A fold of effects over a list is a sequence of effects. -/
theorem foldl_effects {loose : Bool} {α : Type} {f : State → α → State}
    (h : ∀ s x, Effects loose s (f s x)) (l : List α) (s : State) : Effects loose s (l.foldl f s) := by
  induction l generalizing s with
  | nil => exact .refl
  | cons x l ih => exact (h s x).trans (ih _)

end Sys2Proof.Proofs
end

section
/-! SUPPORT. The operations that the blocks share, the frame path and the discipline as sequences of
effects. -/

namespace Sys2Proof.Proofs

open Sys2Proof Sys2Proof.Machine Sys2Proof.Safety

variable {loose : Bool}

/-! ### The frame path -/

theorem SameLine.refl (e : Egm) : SameLine e e := ⟨rfl, rfl, rfl⟩

theorem SameOwners.of_eq {s t : State} (anu : t.anu = s.anu) (mgu : t.mgu = s.mgu) (egm : t.egm = s.egm) :
    SameOwners s t := by
  refine ⟨by rw [anu], by rw [mgu], fun p => ?_⟩
  rw [State.port, State.port, egm]
  exact .refl _

theorem setArriving_effects (p : Port) (a : Option Arriving) (s : State) :
    Effects loose s (s.setArriving p a) :=
  .single (.plain ⟨rfl, rfl, rfl, rfl, rfl, rfl, rfl, rfl, rfl, rfl, rfl⟩ (.inr (.of_eq rfl rfl rfl)))

theorem countIngress_effects (p : Port) (f : IngressCounters → IngressCounters) (s : State) :
    Effects loose s (s.countIngress p f) :=
  .single (.plain ⟨rfl, rfl, rfl, rfl, rfl, rfl, rfl, rfl, rfl, rfl, rfl⟩ (.inr (.of_eq rfl rfl rfl)))

theorem countHit_effects (i : Nat) (s : State) : Effects loose s (countHit i s) :=
  .single (.plain ⟨rfl, rfl, rfl, rfl, rfl, rfl, rfl, List.length_modify .., rfl, rfl, rfl⟩
    (.inr (.of_eq rfl rfl rfl)))

theorem sameOwners_setPort {s : State} {p : Port} {e : Egm} (h : SameLine (s.port p) e) :
    SameOwners s (s.setPort p e) := by
  refine ⟨rfl, rfl, fun q => ?_⟩
  by_cases hq : q = p
  · rw [hq, setPort_port_same]
    exact h
  · rw [setPort_port_ne _ _ _ _ hq]
    exact .refl _

theorem setPort_effects {s : State} {p : Port} {e : Egm} (h : SameLine (s.port p) e) :
    Effects loose s (s.setPort p e) :=
  .single (.plain ⟨rfl, rfl, rfl, rfl, rfl, rfl, rfl, rfl, rfl, rfl, rfl⟩ (.inr (sameOwners_setPort h)))

theorem countEgress_effects (p : Port) (f : EgmCounters → EgmCounters) (s : State) :
    Effects loose s (s.countEgress p f) :=
  setPort_effects ⟨rfl, rfl, rfl⟩

theorem sameLine_write (e : Egm) (o : List Byte) : SameLine e (e.write o) := by
  unfold Egm.write
  split
  · exact .refl e
  · split
    · exact ⟨rfl, rfl, rfl⟩
    · exact .refl e

theorem sameLine_send (e : Egm) (n : Nat) : SameLine e (e.send n) := by
  unfold Egm.send
  split
  · exact .refl e
  · next h => exact ⟨rfl, rfl, by rw [h]; rfl⟩
  · next h => exact ⟨rfl, rfl, by rw [h]; rfl⟩

theorem enterBuffer_effects (p : Port) (how : Admission) (f : PassFrame) (s : State) :
    Effects loose s (enterBuffer p how f s) := by
  unfold enterBuffer
  split
  · exact setPort_effects ⟨rfl, rfl, rfl⟩
  · exact countEgress_effects ..
  · exact countEgress_effects ..

theorem passOn_effects (p : Port) (a : Arriving) (s : State) : Effects loose s (passOn p a s) :=
  (enterBuffer_effects ..).trans (setArriving_effects ..)

theorem decideCourse_effects (p : Port) (s : State) : Effects loose s (decideCourse p s) := by
  rcases decideCourse_cases p s with h | ⟨a, _, _, ⟨_, h⟩ | ⟨_, h⟩⟩
  · rw [h]
  · rw [h]
    exact setArriving_effects ..
  · rw [h]
    exact passOn_effects ..

theorem takeOctets_effects (p : Port) (o : List Byte) (s : State) : Effects loose s (takeOctets p o s) := by
  unfold takeOctets
  split
  · exact .refl
  · dsimp only
    split
    · exact (setArriving_effects ..).trans (setPort_effects (sameLine_write ..))
    · exact setArriving_effects ..

theorem receiveOctets_effects (p : Port) (o : List Byte) (s : State) :
    Effects loose s (receiveOctets p o s) :=
  (takeOctets_effects p o s).trans (decideCourse_effects p _)

theorem applyFlow_effects (fl : Flow) (s : State) : Effects loose s (applyFlow fl s) :=
  (((receiveOctets_effects .u fl.rx.u s).trans (receiveOctets_effects .k fl.rx.k _)).trans
    (setPort_effects (sameLine_send ..))).trans (setPort_effects (sameLine_send ..))

theorem changeLast_effects (p : Port) (f : PassFrame → PassFrame) (s : State) :
    Effects loose s (changeLast p f s) := by
  unfold changeLast
  split
  · exact .refl
  · exact setPort_effects ⟨rfl, rfl, rfl⟩

theorem closeArrival_effects (p : Port) (a : Arriving) (how : Arrival) (s : State) :
    Effects loose s (closeArrival p a how s) := by
  have hcount (t : State) : Effects loose t (if a.transparent then t else t.countIngress p fun c => { c with
      framesIn := bump c.framesIn
      badEnds := if how = .good then c.badEnds else bump c.badEnds }) := by
    split
    · exact .refl
    · exact countIngress_effects ..
  unfold closeArrival
  dsimp only
  split
  · exact ((setArriving_effects p none s).trans (hcount _)).trans (changeLast_effects ..)
  · exact (setArriving_effects p none s).trans (hcount _)

theorem endsGood_effects {p : Port} {fl : Flow} {isFor : EndClass → Bool} {k : Arriving → State → State}
    {s : State} (h : ∀ a t, Effects loose t (k a t)) : Effects loose s (endsGood p fl isFor k s) := by
  unfold endsGood
  dsimp only
  split
  · exact applyFlow_effects fl s
  · split
    · exact ((applyFlow_effects fl s).trans (closeArrival_effects ..)).trans (h ..)
    · exact applyFlow_effects fl s

theorem endsBad_effects (p : Port) (how : Arrival) (s : State) : Effects loose s (endsBad p how s) := by
  unfold endsBad
  split
  · exact .refl
  · split
    · exact (closeArrival_effects ..).trans (enterBuffer_effects ..)
    · exact (passOn_effects ..).trans (closeArrival_effects ..)
    · exact closeArrival_effects ..
    · exact closeArrival_effects ..

theorem lineEndsBad_effects (p : Port) (s : State) : Effects loose s (lineEndsBad p s) := by
  unfold lineEndsBad
  split
  · exact .refl
  · split
    · exact endsBad_effects ..
    · exact .refl

theorem transitWalk_effects (p : Port) (a : Arriving) (s : State) : Effects loose s (transitWalk p a s) := by
  unfold transitWalk
  dsimp only
  split
  · exact setArriving_effects ..
  · split
    · exact ((setArriving_effects ..).trans (countHit_effects ..)).trans (changeLast_effects ..)
    · exact (setArriving_effects ..).trans (countHit_effects ..)

theorem countDropped_effects (p : Port) (c : EndClass) (s : State) :
    Effects loose s (countDropped p c s) := by
  unfold countDropped
  split
  · exact countIngress_effects ..
  · exact countIngress_effects ..
  all_goals exact .refl

theorem datingWalk_effects (key : BitVec 32) (s : State) : Effects loose s (datingWalk key s).1 := by
  unfold datingWalk
  split
  · exact .refl
  · exact countHit_effects ..

/-! ### Warnings, alerts, reports and the ring -/

theorem latch_effects (b : Nat) (s : State) : Effects loose s (latch b s) := by
  rcases latch_cases b s with ⟨_, h⟩ | ⟨_, h⟩
  · rw [h]
  · rw [h]
    exact .single (.wru _ rfl (.inl rfl) (.inr rfl))

theorem callAlertTest_effects (s : State) : Effects loose s (callAlertTest s) :=
  .single (.wru _ rfl (.inr ⟨rfl, rfl, rfl⟩) (.inr rfl))

theorem alertTest_effects (s : State) : Effects loose s (alertTest s) := by
  rcases alertTest_cases s with ⟨_, h⟩ | ⟨hcan, h⟩
  · rw [h]
  · rw [h]
    exact .single (.alert hcan)

theorem finish_effects (s : State) : Effects loose s (finish s) := by
  rcases finish_cases s with ⟨_, h⟩ | ⟨_, h⟩
  · rw [h]
  · rw [h]
    exact (alertTest_effects _).after (.single (.wru _ rfl (.inr ⟨rfl, rfl, rfl⟩) (.inr rfl)))

theorem dueCheck_effects (s : State) : Effects loose s (dueCheck s) := by
  rcases dueCheck_cases s with ⟨_, h⟩ | ⟨hcan, h⟩
  · rw [h]
  · rw [h]
    exact .single (.report hcan)

theorem offer_effects (r : Record) (s : State) : Effects loose s (offer r s) := by
  rcases offer_cases r s with ⟨hroom, h⟩ | ⟨_, h⟩
  · rw [h]
    exact .head (.write r hroom) (dueCheck_effects _)
  · rw [h]
    exact .head (.ringCount _ _) (latch_effects 53 _)

theorem rackNotice_effects (cause : RackCause) (old new : DState) (v : Int) (s : State) :
    Effects loose s (rackNotice cause old new v s) := offer_effects ..

theorem serverNotice_effects (i : Nat) (sv : Server) (old new : Option SState) (cause : ServerCause)
    (s : State) : Effects loose s (serverNotice i sv old new cause s) := offer_effects ..

theorem rpe_effects {s : State} {r : Rpe} (h : r.inFlight = s.rpe.inFlight) :
    Effects loose s { s with rpe := r } := .single (.rpe r (.inl h))

theorem deferredFlush_effects {s : State} (idle : s.rpe.inFlight = none) :
    Effects loose s (deferredFlush s) := by
  unfold deferredFlush
  dsimp only
  split
  · exact (rpe_effects (by rfl)).after (.single (.flush idle))
  · exact .refl

/-! ### The discipline -/

/-- What a change of the discipline state leaves of DSE. -/
@[simp] theorem setDState_dse (new : DState) (s : State) :
    (setDState new s).dse = { s.dse with state := new } := by
  unfold setDState
  dsimp only
  split
  · next h => rw [← h]
  · simp

/-- What the invariants read of DSE. -/
def dseCore (d : Dse) : DState × List Int × Int × Option Uptime × Option Uptime × Option Outstanding ×
    Option ProbeFrame :=
  (d.state, d.history, d.holdoverRate, d.probeTimer, d.growthTimer, d.outstanding, d.frame)

/-- DSE changes neither its state, its rates, its timers, its outstanding probe nor its frame in a queue. -/
theorem dse_effects {s : State} {d : Dse} (h : dseCore d = dseCore s.dse) :
    Effects loose s { s with dse := d } := by
  simp only [dseCore, Prod.mk.injEq] at h
  obtain ⟨state, history, holdoverRate, probeTimer, growthTimer, outstanding, frame⟩ := h
  exact .single (.dse d state history holdoverRate (by rw [probeTimer]) (by rw [growthTimer])
    (fun h => .inl (by rwa [outstanding] at h)) (.inr frame))

/-- DSE has no outstanding probe any more. -/
theorem dropProbe_effects {s : State} {d : Dse}
    (h : dseCore d = dseCore { s.dse with outstanding := none }) :
    Effects loose s { s with dse := d } := by
  simp only [dseCore, Prod.mk.injEq] at h
  obtain ⟨state, history, holdoverRate, probeTimer, growthTimer, outstanding, frame⟩ := h
  exact .single (.dse d state history holdoverRate (by rw [probeTimer]) (by rw [growthTimer])
    (fun h => by rw [outstanding] at h; exact absurd h (by decide)) (.inr frame))

theorem countDse_effects (f : DseCounters → DseCounters) (s : State) : Effects loose s (countDse f s) :=
  dse_effects (by rfl)

theorem invalidateProbe_effects (s : State) : Effects loose s (invalidateProbe s) :=
  dropProbe_effects (by rfl)

theorem reachFreerun_effects {s : State} (h : s.dse.state = .holdover) :
    Effects loose s (reachFreerun s) :=
  .head (.freerun h) ((latch_effects 50 _).trans (rackNotice_effects ..))

theorem testHoldoverLimit_effects {s : State} (h : s.dse.state = .holdover) :
    Effects loose s (testHoldoverLimit s) := by
  unfold testHoldoverLimit
  split
  · exact reachFreerun_effects h
  · exact .refl

theorem enterHoldover_eq (s : State) : enterHoldover s = testHoldoverLimit (beginHoldover s) := rfl

theorem enterHoldover_effects {s : State} (h : s.dse.state = .locked) :
    Effects loose s (enterHoldover s) :=
  .head (.holdover h) (testHoldoverLimit_effects (by simp [beginHoldover]))

theorem miss_effects (s : State) : Effects loose s (miss s) := by
  unfold miss
  dsimp only
  split
  · next h => exact (enterHoldover_effects (by exact h.1)).after (dse_effects (by rfl))
  · exact dse_effects (by rfl)

theorem loseOutstanding_effects (q : Seq) (s : State) : Effects loose s (loseOutstanding q s) := by
  unfold loseOutstanding
  split
  · exact .refl
  · split
    · exact (miss_effects _).after (dropProbe_effects (by rfl))
    · exact .refl

theorem queueProbe_effects {f : ProbeFrame} {s : State} (h : s.dse.frame = none) :
    Effects loose s (queueProbe f s) := by
  unfold queueProbe
  split
  · next up => exact .single (.probe f h up)
  · exact ((countEgress_effects ..).trans (countDse_effects ..)).trans (loseOutstanding_effects ..)

theorem releaseHeld_effects {s : State} (h : s.dse.frame = none) : Effects loose s (releaseHeld s) := by
  unfold releaseHeld
  split
  · exact .refl
  · exact (queueProbe_effects (by exact h)).after (dse_effects (by rfl))

/-- Entering HOLDOVER leaves the probe as it was. -/
@[simp] theorem beginHoldover_dse (s : State) : (beginHoldover s).dse = { s.dse with
    state := .holdover
    holdoverRate := learnedRate s
    u := saturate32 (s.dse.lastOffset.getD 0).natAbs
    growthTimer := some (after s.rcu.uptime Config.ticksPerSecond) } := by
  rw [beginHoldover, setDState_dse]
  rfl

@[simp] theorem reachFreerun_dse (s : State) :
    (reachFreerun s).dse = { s.dse with state := .freerun, growthTimer := none } := by
  simp [reachFreerun]

/-- A miss leaves the probe's timer and frame. -/
theorem miss_probe (s : State) :
    (miss s).dse.frame = s.dse.frame ∧ (miss s).dse.probeTimer = s.dse.probeTimer := by
  unfold miss
  dsimp only
  split
  · rw [enterHoldover_eq, testHoldoverLimit]
    split <;> simp
  · exact ⟨rfl, rfl⟩

theorem loseOutstanding_frame_kept (q : Seq) (s : State) :
    (loseOutstanding q s).dse.frame = s.dse.frame := by
  unfold loseOutstanding
  split
  · rfl
  · split
    · rw [(miss_probe _).1]
    · rfl

theorem missOutstanding_effects (s : State) : Effects loose s (missOutstanding s) := by
  unfold missOutstanding
  split
  · exact (miss_effects _).after (dropProbe_effects (by rfl))
  · exact .refl

theorem missOutstanding_probe (s : State) : (missOutstanding s).dse.frame = s.dse.frame ∧
    (missOutstanding s).dse.probeTimer = s.dse.probeTimer := by
  unfold missOutstanding
  split
  · obtain ⟨hframe, htimer⟩ := miss_probe { s with dse := { s.dse with outstanding := none, held := none } }
    exact ⟨hframe, htimer⟩
  · exact ⟨rfl, rfl⟩

/-- The previous PROBE frame leaves its queue unless its egress has begun (R26). -/
theorem withdrawUnsent_effects (s : State) :
    Effects loose s (if probeInEgress s then s else withdrawProbe s) := by
  split
  · exact .refl
  · next h => exact .single (.withdraw (Bool.eq_false_iff.mpr h))

theorem withdrawProbe_dse (s : State) : (withdrawProbe s).dse = { s.dse with frame := none } := by
  unfold withdrawProbe
  split
  · next h => rw [← h]
  · rfl

theorem buildProbe_of_wait {s : State} (h : probeInEgress s = true) :
    buildProbe s = { s with dse := { s.dse with
      nextSeq := s.dse.nextSeq + 1
      outstanding := some { seq := s.dse.nextSeq, port := s.mgu.station.timeServerPort, sent := none }
      held := some (probeFrame s) } } := by
  simp only [buildProbe, h, if_true]
  rfl

theorem buildProbe_of_unsent {s : State} (h : probeInEgress s = false) :
    buildProbe s = queueProbe (probeFrame s) { withdrawProbe s with dse := { (withdrawProbe s).dse with
      nextSeq := (withdrawProbe s).dse.nextSeq + 1
      outstanding := some { seq := s.dse.nextSeq, port := s.mgu.station.timeServerPort, sent := none }
      held := none } } := by
  simp only [buildProbe, h, Bool.false_eq_true, if_false]
  rfl

theorem buildProbe_effects {s : State} (h : s.dse.probeTimer.isSome = true) :
    Effects loose s (buildProbe s) := by
  cases hwait : probeInEgress s with
  | true =>
    rw [buildProbe_of_wait hwait]
    exact .single (.dse _ rfl rfl rfl rfl rfl (fun _ => .inr h) (.inr rfl))
  | false =>
    rw [buildProbe_of_unsent hwait]
    have hdse := withdrawProbe_dse s
    refine Effects.after (queueProbe_effects (by simp [hdse])) ((Effects.after (.single ?_))
      (.single (.withdraw hwait)))
    exact .dse _ rfl rfl rfl rfl rfl (fun _ => .inr (by simpa [hdse] using h)) (.inr rfl)

theorem unsentProbe_effects (s : State) : Effects loose s (unsentProbe s) :=
  ((withdrawUnsent_effects s).trans (countDse_effects ..)).trans (miss_effects _)

theorem reloadProbeTimer_effects (s : State) : Effects loose s (reloadProbeTimer s) :=
  .single (.dse _ rfl rfl rfl (by simp) rfl .inl (.inr rfl))

theorem probeExpiry_effects {s : State} (h : s.dse.probeTimer.isSome = true) :
    Effects loose s (probeExpiry s) := by
  have hsome : (missOutstanding (reloadProbeTimer s)).dse.probeTimer.isSome = true := by
    rw [(missOutstanding_probe _).2]
    simpa [reloadProbeTimer] using h
  unfold probeExpiry
  dsimp only
  refine ((reloadProbeTimer_effects s).trans (missOutstanding_effects _)).trans ?_
  split
  · exact unsentProbe_effects _
  · exact buildProbe_effects hsome

theorem growthExpiry_effects {s : State} (h : s.dse.state = .holdover) :
    Effects loose s (growthExpiry s) := by
  refine (testHoldoverLimit_effects (by exact h)).after (.single ?_)
  exact .dse _ rfl rfl rfl rfl (by simp) .inl (.inr rfl)

/-! ### The servo -/

theorem applyStep_effects (target : Nat) (s : State) : Effects loose s (applyStep target s) := by
  have hns : (s.rcu.time.moveTo target).ns.toNat < 1000000000 := by
    simp only [TimeCounter.moveTo, BitVec.toNat_ofNat]
    omega
  refine (invalidateProbe_effects _).after ((rackNotice_effects ..).after ((latch_effects 51 _).after
    (.single ?_)))
  exact .clock _ rfl rfl rfl rfl fun _ _ => hns

theorem dseStep_effects (n : Int) (s : State) : Effects loose s (dseStep n s) :=
  (countDse_effects ..).trans (applyStep_effects ..)

/-- The servo writes F and S only in ACQUIRE and LOCKED (R39, R40). -/
theorem slew_effects {x : Int} {s : State} (h : s.dse.state = .acquire ∨ s.dse.state = .locked) :
    Effects loose s (slew x s) := by
  have hwrite (f g : Int) (t : State) (ht : t.dse.state = .acquire ∨ t.dse.state = .locked) :
      Effects loose t (writeServo f g t) := by
    refine .single (.rate _ _ _ (.inl (clampInt_mem _ _ _ (by decide))) (fun hs => ?_) (fun hs => ?_))
    · rcases ht with ht | ht <;> simp [ht] at hs
    · rcases ht with ht | ht <;> simp [ht] at hs
  unfold slew
  dsimp only
  split
  · exact (countDse_effects ..).trans (hwrite _ _ _ h)
  · exact hwrite _ _ _ h

theorem slew_state (x : Int) (s : State) : (slew x s).dse.state = s.dse.state := by
  unfold slew
  dsimp only
  split <;> simp [countDse]

/-- DSE enters ACQUIRE or LOCKED from one of the two, its growth timer as it was. -/
theorem serve_effects {new : DState} {s : State} (hnew : new = .acquire ∨ new = .locked)
    (h : s.dse.state = .acquire ∨ s.dse.state = .locked) : Effects loose s (setDState new s) := by
  refine .single (Effect.serve (s := s) new s.dse.growthTimer hnew ?_ (.inr ⟨rfl, ?_⟩))
  · rcases h with h | h <;> simp [h]
  · rcases h with h | h <;> simp [h]

theorem lockIn_effects {x : Int} {s : State} (h : s.dse.state = .acquire) :
    Effects loose s (lockIn x s) := by
  unfold lockIn
  extract_lets run src t
  have hrun : Effects loose s t := dse_effects (by rfl)
  refine hrun.trans ?_
  split
  · exact Effects.after (dse_effects (by rfl)) (serve_effects (.inr rfl) (.inl h))
  · exact .refl

theorem unlock_effects {x : Int} {s : State} (h : s.dse.state = .locked) :
    Effects loose s (unlock x s) := by
  unfold unlock
  extract_lets run src t
  have hrun : Effects loose s t := dse_effects (by rfl)
  refine hrun.trans ?_
  split
  · exact Effects.after (dse_effects (by rfl)) (serve_effects (.inl rfl) (.inr h))
  · exact .refl

theorem pushHistory_effects (s : State) : Effects loose s (pushHistory s) := by
  unfold pushHistory
  extract_lets f jump t
  have ht : Effects loose s t ∧ t.rcu.f = f := by
    unfold t
    split
    · exact ⟨(rackNotice_effects ..).after ((latch_effects 52 _).after (countDse_effects ..)),
        by simp [countDse, f]⟩
    · exact ⟨.refl, rfl⟩
  rw [← ht.2]
  exact ht.1.tail .history

theorem pushHistory_state (s : State) : (pushHistory s).dse.state = s.dse.state := by
  unfold pushHistory
  dsimp only
  split <;> simp [countDse]

theorem advanceLock_effects (s : State) : Effects loose s (advanceLock s) := by
  unfold advanceLock
  extract_lets n src t
  have hcount : Effects loose s t := dse_effects (by rfl)
  split
  · exact hcount.trans (pushHistory_effects t)
  · exact hcount

theorem advanceLock_state (s : State) : (advanceLock s).dse.state = s.dse.state := by
  unfold advanceLock
  dsimp only
  split
  · rw [pushHistory_state]
  · rfl

theorem dseStep_state (n : Int) (s : State) : (dseStep n s).dse.state = s.dse.state := by
  simp [dseStep, countDse]

theorem acquireExchange_effects {x : Int} {s : State} (h : s.dse.state = .acquire) :
    Effects loose s (acquireExchange x s) := by
  unfold acquireExchange
  split
  · exact (dseStep_effects ..).trans (dse_effects (by rfl))
  · exact (slew_effects (.inl h)).trans (lockIn_effects (by rw [slew_state, h]))

theorem lockedExchange_effects {x : Int} {s : State} (h : s.dse.state = .locked) :
    Effects loose s (lockedExchange x s) := by
  have hserved (y : Int) (t : State) (ht : t.dse.state = .locked) :
      Effects loose t (unlock x (advanceLock (slew y t))) :=
    ((slew_effects (.inr ht)).trans (advanceLock_effects _)).trans
      (unlock_effects (by rw [advanceLock_state, slew_state, ht]))
  unfold lockedExchange
  dsimp only
  split
  · split
    · exact ((dseStep_effects ..).trans (serve_effects (.inl rfl) (.inr (by rw [dseStep_state, h])))).trans
        (dse_effects (by rfl))
    · exact (countDse_effects ..).trans (hserved _ _ h)
  · exact hserved _ _ h

theorem returnFromHoldover_effects (s : State) : Effects loose s (returnFromHoldover s) := by
  unfold returnFromHoldover
  split
  · next h =>
    exact .single (.serve .acquire none (.inl rfl) (fun hidle => by simp [hidle, DState.unlocked] at h)
      (.inl rfl))
  · exact .refl

theorem acceptExchange_effects (x : Int) (s : State) : Effects loose s (acceptExchange x s) := by
  unfold acceptExchange
  extract_lets src ctr t u
  have hreturn : Effects loose s u := (returnFromHoldover_effects t).after (dse_effects (by rfl))
  refine hreturn.trans ?_
  split
  · next h => exact acquireExchange_effects h
  · next h => exact lockedExchange_effects h
  all_goals exact .refl

/-- A screened exchange that fails is counted and is a miss (R30, R32, R33). -/
theorem countedMiss_effects (f : DseCounters → DseCounters) (s : State) :
    Effects loose s (miss (countDse f s)) :=
  (countDse_effects ..).trans (miss_effects _)

theorem gateExchange_effects (delay x : Int) (s : State) : Effects loose s (gateExchange delay x s) := by
  unfold gateExchange
  extract_lets d out src t
  have hpush : Effects loose s t := dse_effects (by rfl)
  refine hpush.trans ?_
  split
  · exact countedMiss_effects ..
  · exact acceptExchange_effects ..

theorem screenEcho_effects (e : EchoFields) (t1 t4 : Stamp) (s : State) :
    Effects loose s (screenEcho e t1 t4 s) := by
  unfold screenEcho
  split
  · exact countedMiss_effects ..
  split
  · exact countedMiss_effects ..
  unfold screenDelay
  split
  · exact countedMiss_effects ..
  · exact gateExchange_effects ..

theorem takeEcho_effects (a : Arriving) (s : State) : Effects loose s (takeEcho a s) := by
  unfold takeEcho
  split
  · exact countDse_effects ..
  · exact (screenEcho_effects ..).after (dropProbe_effects (by rfl))

end Sys2Proof.Proofs
end

section
/-! SUPPORT. Tracking, dating and the requests of management as sequences of effects. -/

namespace Sys2Proof.Proofs

open Sys2Proof Sys2Proof.Machine Sys2Proof.Safety

variable {loose : Bool}

/-! ### The server table -/

theorem serverAt_eq_some_iff {i : Nat} {s : State} {sv : Server} :
    serverAt i s = some sv ↔ s.dtr.servers[i]? = some (some sv) := by
  simp [serverAt, Option.join_eq_some_iff]

/-- The lowest-numbered EMPTY entry is EMPTY. -/
theorem serverAt_firstEmpty {i : Nat} {s : State} (h : firstEmpty s = some i) : serverAt i s = none := by
  obtain ⟨hi, hnone, _⟩ := List.findIdx?_eq_some_iff_getElem.mp h
  simpa [serverAt, hi] using hnone

/-- An address that the table does not find is held by no entry. -/
theorem findServer_eq_none_iff {a : Address} {s : State} :
    findServer a s = none ↔ ∀ e ∈ s.dtr.servers, holdsAddress a e = false := by
  simp [findServer, List.findIdx?_eq_none_iff]

@[simp] theorem wake_address (sv : Server) : sv.wake.address = sv.address := by
  unfold Server.wake
  split <;> rfl

@[simp] theorem book_address (sv : Server) (ing : Ingress) : (sv.book ing).address = sv.address := rfl

@[simp] theorem reseed_address (sv : Server) (e : Epoch) : (sv.reseed e).address = sv.address := rfl

@[simp] theorem take_address (sv : Server) (o : Int) (ti : Stamp) (k : Nat) :
    (sv.take o ti k).address = sv.address := by
  unfold Server.take
  dsimp only
  split <;> rfl

@[simp] theorem windowStep_address (sv : Server) (ti : Stamp) (w : Nat) (wild : Bool) :
    (sv.windowStep ti w wild).1.address = sv.address := by
  unfold Server.windowStep
  dsimp only
  split <;> rfl

@[simp] theorem watchRun_address (sv : Server) (st : DriftSettings) (n : Nat) :
    (sv.watchRun st n).1.address = sv.address := by
  unfold Server.watchRun
  split <;> rfl

@[simp] theorem releaseRun_address (sv : Server) (st : DriftSettings) :
    (sv.releaseRun st).1.address = sv.address := by
  unfold Server.releaseRun
  split <;> rfl

@[simp] theorem evaluate_address (sv : Server) (st : DriftSettings) (wild completed : Bool) :
    (sv.evaluate st wild completed).1.address = sv.address := by
  unfold Server.evaluate
  repeat' split
  all_goals simp [Server.toDrifting]

/-- A sample keeps the address of its entry. -/
theorem sampleServer_address (st : DriftSettings) (held : Bool) (ing : Ingress) (ts : Stamp)
    (delay : BitVec 32) (sv : Server) : (sampleServer st held ing ts delay sv).server.address = sv.address := by
  unfold sampleServer
  dsimp only
  repeat' split
  all_goals simp

/-! ### Tracking -/

theorem dtr_effects {s : State} {d : Dtr} (servers : picture d.servers = picture s.dtr.servers)
    (silentWarn : d.settings.silentWarn = s.dtr.settings.silentWarn)
    (majority : d.majority = s.dtr.majority) : Effects loose s { s with dtr := d } :=
  .single (.dtr d servers silentWarn majority)

theorem countDtr_effects (f : DtrCounters → DtrCounters) (s : State) : Effects loose s (countDtr f s) :=
  dtr_effects rfl rfl rfl

theorem recomputeMajority_effects (s : State) : Effects loose s (recomputeMajority s) := .single .majority

/-- The notice of a sample, dated and rated after the edge of a return from silence (R96, R110). -/
def sampleNotice (i : Nat) (old : Server) (m : Sample) (s : State) : Option Record :=
  let s2 := giveChange i (warns s.dtr.settings.silentWarn old.state)
    (warns s.dtr.settings.silentWarn old.wake.state) old.select s
  m.cause.map fun c =>
    { quality := quality s2
      date := s2.rcu.time.stamp
      body := .server (BitVec.ofNat 8 i) m.server.address (some old.wake.state) (some m.server.state) c
        m.server.fo m.server.drift }

/-- The outputs of a sample are the edges and the notice of a change of its entry. -/
theorem sampleOutputs_eq (i : Nat) (old : Server) (m : Sample) (s : State) :
    sampleOutputs i old m (setServer i (some m.server) s) =
      changeServer i old m.server (warns s.dtr.settings.silentWarn old.wake.state)
        (sampleNotice i old m (setServer i (some m.server) s)) s := by
  unfold sampleOutputs changeServer sampleNotice
  cases m.cause with
  | none => simp [offerSome]
  | some c => simp [offerSome, serverNotice]

theorem sampleEntry_effects (i : Nat) (ing : Ingress) (ts : Stamp) (delay : BitVec 32) (s : State) :
    Effects loose s (sampleEntry i ing ts delay s) := by
  unfold sampleEntry
  split
  · exact .refl
  · next sv hsv =>
    extract_lets held m t
    have hcounted : t = setServer i (some m.server) (countDtr (countSample m) s) := rfl
    rw [hcounted, sampleOutputs_eq]
    exact ((countDtr_effects (countSample m) s).tail
      (.server i sv m.server _ _ hsv (sampleServer_address ..))).trans (recomputeMajority_effects _)

theorem trackQuery_effects (src : Address) (ing : Ingress) (ts : Stamp) (delay : BitVec 32) (s : State) :
    Effects loose s (trackQuery src ing ts delay s) := by
  unfold trackQuery
  split
  · exact sampleEntry_effects ..
  · next hnone =>
    dsimp only
    split
    · split
      · exact countDtr_effects ..
      · next i hi =>
        exact (((Relation.ReflTransGen.single (.newServer i _ (serverAt_firstEmpty hi) rfl hnone)).trans
          (countDtr_effects ..)).trans (serverNotice_effects ..)).trans (sampleEntry_effects ..)
    · exact countDtr_effects ..

theorem removeServer_effects (i : Nat) (s : State) : Effects loose s (removeServer i s) := by
  unfold removeServer
  split
  · exact .refl
  · next sv hsv => exact .single (.clear i sv _ hsv)

theorem evictIfDue_effects (i : Nat) (s : State) : Effects loose s (evictIfDue i s) := by
  unfold evictIfDue
  split
  · exact .refl
  · next sv hsv =>
    split
    · exact (countDtr_effects ..).tail (.clear i sv _ hsv)
    · exact .refl

/-- The notice of an entry that changes without a return from silence (R107, R113). -/
def changeNotice (i : Nat) (new : Server) (old : SState) (cause : ServerCause) (s : State) : Record :=
  { quality := quality s
    date := s.rcu.time.stamp
    body := .server (BitVec.ofNat 8 i) new.address (some old) (some new.state) cause new.fo new.drift }

/-- A notice and then the edge of the new condition make a change of the entry. -/
theorem changeServer_of_notice (i : Nat) (old new : Server) (notice : Option Record) (s : State) :
    giveChange i (warns s.dtr.settings.silentWarn old.state) (warns s.dtr.settings.silentWarn new.state)
        old.select (offerSome notice (setServer i (some new) s)) =
      changeServer i old new (warns s.dtr.settings.silentWarn old.state) notice s := by
  simp [changeServer, giveChange]

@[simp] theorem offerSome_dtr (r : Option Record) (s : State) : (offerSome r s).dtr = s.dtr := by
  cases r <;> simp [offerSome]

theorem silenceIfDue_effects (i : Nat) (s : State) : Effects loose s (silenceIfDue i s) := by
  unfold silenceIfDue
  split
  · exact .refl
  · next sv hsv =>
    split
    · dsimp only
      have h := changeServer_of_notice i sv { sv with state := .silent, run := 0 }
        (some (changeNotice i { sv with state := .silent, run := 0 } sv.state .silenced
          (countDtr (fun c => { c with silenced := bump c.silenced })
            (setServer i (some { sv with state := .silent, run := 0 }) s))))
        (countDtr (fun c => { c with silenced := bump c.silenced }) s)
      refine (Effects.after (evictIfDue_effects ..) ?_)
      simp only [serverNotice_frame]
      exact h ▸ (countDtr_effects ..).tail (.server i sv _ _ _ hsv rfl)
    · exact .refl

end Sys2Proof.Proofs
end

section
/-! SUPPORT. Dating and the requests of management as sequences of effects. -/

namespace Sys2Proof.Proofs

open Sys2Proof Sys2Proof.Machine Sys2Proof.Safety

variable {loose : Bool}

/-! ### Dating -/

theorem dte_effects {s : State} {d : Dte} (profiles : d.profiles.length = s.dte.profiles.length)
    (exchanges : d.exchanges = s.dte.exchanges) : Effects loose s { s with dte := d } := by
  refine .single (.dte d profiles (by rw [exchanges]) fun h => ?_)
  have hkeys : exchangeKeys { s with dte := d } = exchangeKeys s := by
    simp only [exchangeKeys, exchanges]
  rw [ExchangesDistinct, hkeys]
  exact h

theorem countProfile_effects (q : BitVec 3) (f : Profile → Profile) (s : State) :
    Effects loose s (countProfile q f s) := dte_effects (List.length_modify ..) rfl

theorem changeProfile_effects (n : Nat) (f : Profile → Profile) (s : State) :
    Effects loose s (changeProfile n f s) := dte_effects (List.length_modify ..) rfl

/-- The keys of a table in which an entry is replaced: those before it, its own and those behind it. -/
theorem filterMap_set {α β : Type} (f : α → Option β) {l : List α} {i : Nat} (h : i < l.length) (x : α) :
    (l.set i x).filterMap f = (l.take i).filterMap f ++ (f x).toList ++ (l.drop (i + 1)).filterMap f := by
  rw [List.set_eq_take_append_cons_drop, if_pos h, List.filterMap_append, List.filterMap_cons]
  cases f x <;> simp

/-- A table is the entries before an index, its entry and those behind it. -/
theorem filterMap_split {α β : Type} (f : α → Option β) {l : List α} {i : Nat} (h : i < l.length) :
    l.filterMap f = (l.take i).filterMap f ++ (f l[i]).toList ++ (l.drop (i + 1)).filterMap f := by
  conv_lhs => rw [← List.set_getElem_self h]
  exact filterMap_set f h l[i]

/-- An entry that takes a value no other entry holds, or none, leaves the values distinct. -/
theorem nodup_filterMap_set {α β : Type} (f : α → Option β) {l : List α} {i : Nat} {x : α}
    (h : (l.filterMap f).Nodup)
    (hx : ∀ (b : β), f x = some b → ∀ (j : Nat) (hj : j < l.length), j ≠ i → f l[j] ≠ some b) :
    ((l.set i x).filterMap f).Nodup := by
  by_cases hi : i < l.length
  · rw [filterMap_split f hi] at h
    rw [filterMap_set f hi]
    cases hfx : f x with
    | none =>
      rw [Option.toList_none, List.append_nil]
      exact h.sublist ((List.sublist_append_left _ _).append_right _)
    | some b =>
      have hold : ((l.take i).filterMap f ++ (l.drop (i + 1)).filterMap f).Nodup :=
        h.sublist ((List.sublist_append_left _ _).append_right _)
      have hbefore : b ∉ (l.take i).filterMap f := by
        intro hb
        obtain ⟨y, hy, hfy⟩ := List.mem_filterMap.mp hb
        obtain ⟨j, hj, rfl⟩ := List.mem_take_iff_getElem.mp hy
        exact hx b hfx j (by omega) (by omega) hfy
      have hbehind : b ∉ (l.drop (i + 1)).filterMap f := by
        intro hb
        obtain ⟨y, hy, hfy⟩ := List.mem_filterMap.mp hb
        obtain ⟨j, hj, rfl⟩ := List.mem_drop_iff_getElem.mp hy
        exact hx b hfx (i + 1 + j) (by omega) (by omega) hfy
      rw [Option.toList_some, List.append_assoc]
      refine (List.perm_middle.nodup_iff).mpr (List.nodup_cons.mpr ⟨?_, hold⟩)
      simp [hbefore, hbehind]
  · rwa [List.set_eq_of_length_le (by omega)]

theorem findExchange_eq_some {key : ExchangeKey} {s : State} {i : Nat} {x : Exchange}
    (h : findExchange key s = some (i, x)) :
    s.dte.exchanges.findIdx? (holdsKey key) = some i ∧ s.dte.exchanges[i]? = some (some x) ∧ x.key = key := by
  unfold findExchange at h
  split at h
  · exact absurd h (by simp)
  · next j hj =>
    split at h
    · exact absurd h (by simp)
    · next y hy =>
      simp only [Option.some.injEq, Prod.mk.injEq] at h
      obtain ⟨rfl, rfl⟩ := h
      rw [Option.join_eq_some_iff] at hy
      obtain ⟨hlt, hkey, _⟩ := List.findIdx?_eq_some_iff_getElem.mp hj
      have hentry : s.dte.exchanges[j] = some y := by
        rw [List.getElem?_eq_getElem hlt] at hy
        exact Option.some.inj hy
      rw [hentry, holdsKey] at hkey
      exact ⟨hj, hy, eq_of_beq hkey⟩

theorem findExchange_eq_none {key : ExchangeKey} {s : State} (h : findExchange key s = none) :
    ∀ e ∈ s.dte.exchanges, holdsKey key e = false := by
  unfold findExchange at h
  split at h
  · next hnone => exact List.findIdx?_eq_none_iff.mp hnone
  · next j hj =>
    obtain ⟨hlt, hkey, _⟩ := List.findIdx?_eq_some_iff_getElem.mp hj
    split at h
    · next hjoin =>
      cases he : s.dte.exchanges[j] with
      | none => simp [he, holdsKey] at hkey
      | some x => simp [hlt, he] at hjoin
    · exact absurd h (by simp)

/-- An entry opens, is taken over or closes, no other entry holding its new key (R135). -/
theorem setExchange_effects {i : Nat} {e : Option Exchange} {s : State}
    (h : ∀ x, e = some x → ExchangesDistinct s →
      ∀ (j : Nat) (hj : j < s.dte.exchanges.length), j ≠ i → holdsKey x.key s.dte.exchanges[j] = false) :
    Effects loose s (setExchange i e s) := by
  refine .single (.dte _ rfl List.length_set fun hd => ?_)
  refine nodup_filterMap_set (fun e : Option Exchange => e.map Exchange.key) hd fun key hkey j hj hne hheld => ?_
  obtain ⟨x, rfl, rfl⟩ := Option.map_eq_some_iff.mp hkey
  obtain ⟨y, hy, hykey⟩ := Option.map_eq_some_iff.mp hheld
  have hfree := h x rfl hd j hj hne
  rw [hy, holdsKey, hykey, beq_self_eq_true] at hfree
  exact absurd hfree (by decide)

/-- Where the OPEN keys are distinct, no other entry holds the key of an entry. -/
theorem holdsKey_unique {s : State} (hd : ExchangesDistinct s) {i : Nat} {x : Exchange}
    (hx : s.dte.exchanges[i]? = some (some x)) {j : Nat} (hj : j < s.dte.exchanges.length) (hne : j ≠ i) :
    holdsKey x.key s.dte.exchanges[j] = false := by
  obtain ⟨hi, hxi⟩ := List.getElem?_eq_some_iff.mp hx
  cases hy : s.dte.exchanges[j] with
  | none => rfl
  | some y =>
    refine beq_eq_false_iff_ne.mpr fun hkey => ?_
    have hpair := List.pairwise_filterMap.mp hd
    rcases Nat.lt_or_gt_of_ne hne with hlt | hlt
    · exact List.pairwise_iff_getElem.mp hpair j i hj hi hlt y.key (by simp [hy]) x.key (by simp [hxi]) hkey
    · exact List.pairwise_iff_getElem.mp hpair i j hi hj hlt x.key (by simp [hxi]) y.key (by simp [hy]) hkey.symm

theorem dateCommand_effects (a : Arriving) (q : BitVec 3) (s : State) :
    Effects loose s (dateCommand a q s) := by
  unfold dateCommand
  split
  · exact countProfile_effects ..
  · split
    · next i old hfound =>
      obtain ⟨_, hentry, hkey⟩ := findExchange_eq_some hfound
      have hopen : Effects loose s (setExchange i (some (openedExchange a q s)) s) := by
        refine setExchange_effects fun x hx hd j hj hne => ?_
        cases hx
        have := holdsKey_unique hd hentry hj hne
        rwa [hkey] at this
      exact (offer_effects ..).after ((countProfile_effects ..).after ((countProfile_effects ..).after hopen))
    · next hnone =>
      split
      · refine (countProfile_effects ..).after (setExchange_effects fun x hx _ j hj _ => ?_)
        cases hx
        exact findExchange_eq_none hnone _ (List.getElem_mem hj)
      · exact countProfile_effects ..

theorem takeCommand_effects (a : Arriving) (s : State) : Effects loose s (takeCommand a s) := by
  unfold takeCommand
  have hwalk := datingWalk_effects (loose := loose) (storageKey a.settings a.octets) s
  generalize datingWalk (storageKey a.settings a.octets) s = walk at hwalk
  obtain ⟨t, profile⟩ := walk
  cases profile with
  | none => exact hwalk
  | some q =>
    dsimp only
    split
    · exact hwalk.trans (dateCommand_effects ..)
    · exact hwalk

theorem takeCompletion_effects (a : Arriving) (s : State) : Effects loose s (takeCompletion a s) := by
  unfold takeCompletion
  split
  · exact (offer_effects ..).after ((countProfile_effects ..).after
      (setExchange_effects fun x hx => by cases hx))
  · have hwalk := datingWalk_effects (loose := loose) (storageKey a.settings a.octets) s
    generalize datingWalk (storageKey a.settings a.octets) s = walk at hwalk
    obtain ⟨t, profile⟩ := walk
    cases profile with
    | none => exact hwalk
    | some q => exact hwalk.trans (countProfile_effects ..)

/-- Entries that become FREE leave the keys of the others distinct. -/
theorem nodup_keys_of_freed {l l' : List (Option Exchange)} (h : l'.length = l.length)
    (hfreed : ∀ (j : Nat) (hj : j < l'.length), l'[j] = none ∨ l'[j] = l[j])
    (hd : (l.filterMap fun e => e.map Exchange.key).Nodup) :
    (l'.filterMap fun e => e.map Exchange.key).Nodup := by
  have hpair := List.pairwise_iff_getElem.mp (List.pairwise_filterMap.mp hd)
  refine List.pairwise_filterMap.mpr (List.pairwise_iff_getElem.mpr fun i j hi hj hlt b hb b' hb' => ?_)
  rcases hfreed i hi with h0 | h0
  · rw [h0] at hb; simp at hb
  · rcases hfreed j hj with h1 | h1
    · rw [h1] at hb'; simp at hb'
    · rw [h0] at hb
      rw [h1] at hb'
      exact hpair i j (by omega) (by omega) hlt b hb b' hb'

theorem expireDeadline_effects (deadline : Uptime) (s : State) :
    Effects loose s (expireDeadline deadline s) := by
  unfold expireDeadline
  refine Effects.after (foldl_effects (fun t x => offer_effects ..) _ _)
    (Effects.after (foldl_effects (fun t x => countProfile_effects ..) _ _)
      (.single (.dte _ rfl (by simp) fun hd => ?_)))
  refine nodup_keys_of_freed (by simp) (fun j hj => ?_) hd
  rw [List.getElem_map]
  split
  · exact .inl rfl
  · exact .inr rfl

theorem doResetDating_effects (s : State) : Effects loose s (doResetDating s).state := by
  refine .single (.dte _ rfl (by simp) fun hd => nodup_keys_of_freed (by simp) (fun j hj => .inl ?_) hd)
  rw [List.getElem_map]

end Sys2Proof.Proofs
end

section
/-! SUPPORT. The requests of management as sequences of effects. -/

namespace Sys2Proof.Proofs

open Sys2Proof Sys2Proof.Machine Sys2Proof.Safety

variable {loose : Bool}

/-! ### The forms of a write -/

theorem clampedWrite_effects_of_mem {s : State} {lo hi v : Nat} {put : Nat → State} (hle : lo ≤ hi)
    (h : ∀ n, lo ≤ n → n ≤ hi → Effects loose s (put n)) :
    Effects loose s (clampedWrite lo hi v put).state :=
  h _ (clampNat_mem lo hi v hle).1 (clampNat_mem lo hi v hle).2

theorem stored_effects {s t : State} {b : Bool} (h : Effects loose s t) : Effects loose s (stored b t).state := h

theorem clampedWrite_effects {s : State} {lo hi v : Nat} {put : Nat → State}
    (h : ∀ n, Effects loose s (put n)) : Effects loose s (clampedWrite lo hi v put).state := h _

theorem flagWrite_effects {s : State} {v : Nat} {put : Bool → State} (h : ∀ b, Effects loose s (put b)) :
    Effects loose s (flagWrite v s put).state := by
  unfold flagWrite
  split
  · exact h _
  · exact h _
  · exact .refl

theorem portWrite_effects {s : State} {v : Nat} {put : Port → State} (h : ∀ p, Effects loose s (put p)) :
    Effects loose s (portWrite v s put).state := by
  unfold portWrite
  split
  · exact h _
  · exact h _
  · exact .refl

theorem writeSelect_effects {s : State} {v : Nat} {put : EdgeSelect → State}
    (h : ∀ e, Effects loose s (put e)) : Effects loose s (writeSelect v s put).state := by
  unfold writeSelect
  split
  · exact .refl
  · exact h _

/-! ### RCU, DSE, FCL, ANU -/

/-- What the invariants read of RCU. -/
def rcuCore (r : Rcu) : TimeCounter × Int × Int × Int × Int := (r.time, r.f, r.s, r.a, r.k)

theorem rcu_effects {s : State} {r : Rcu} (h : rcuCore r = rcuCore s.rcu) :
    Effects loose s { s with rcu := r } := by
  simp only [rcuCore, Prod.mk.injEq] at h
  obtain ⟨time, hf, hs, ha, hk⟩ := h
  exact .single (.clock _ hf hs ha hk fun hvalid _ => by rw [time]; exact hvalid)

theorem changeRcu_effects {f : Rcu → Rcu} {s : State} (h : rcuCore (f s.rcu) = rcuCore s.rcu) :
    Effects loose s (changeRcu f s) := rcu_effects h

theorem writeF_effects (v : List Byte) (s : State) : Effects loose s (writeF v s).state := by
  unfold writeF
  split
  · next hidle =>
    exact .single (.rate _ s.rcu.s s.rcu.phaseTimer (.inl (clampInt_mem _ _ _ (by decide)))
      (fun _ => .inr rfl) (fun h => by simp [hidle] at h))
  · exact .refl

theorem writeIngressComp_effects (p : Port) (n : Nat) (s : State) :
    Effects loose s (writeIngressComp p n s).state :=
  stored_effects (changeRcu_effects (by rfl))

theorem writeEgressComp_effects (p : Port) (n : Nat) (s : State) :
    Effects loose s (writeEgressComp p n s).state :=
  stored_effects (changeRcu_effects (by rfl))

theorem writeClock_effects (i : Nat) (v : List Byte) (s : State) :
    Effects loose s (writeClock i v s).state := by
  unfold writeClock
  dsimp only
  split
  · exact writeF_effects v s
  · exact writeIngressComp_effects ..
  · exact writeEgressComp_effects ..
  · exact writeIngressComp_effects ..
  · exact writeEgressComp_effects ..
  · exact clampedWrite_effects fun n => changeRcu_effects (by rfl)
  · exact .refl

theorem changeServo_effects (f : ServoSettings → ServoSettings) (s : State) :
    Effects loose s (changeServo f s) := dse_effects (by rfl)

theorem writeServoSetting_effects (i : Nat) (v : List Byte) (s : State) :
    Effects loose s (writeServoSetting i v s).state := by
  unfold writeServoSetting
  dsimp only
  split
  case h_1 => exact stored_effects (changeServo_effects ..)
  case h_8 => exact flagWrite_effects fun b => changeServo_effects ..
  case h_14 => exact stored_effects (changeServo_effects ..)
  case h_15 => exact .refl
  all_goals exact clampedWrite_effects fun n => changeServo_effects ..

theorem fcl_effects {s : State} {c : Fcl} (filters : c.filters.length = s.fcl.filters.length)
    (masks : c.masks.length = s.fcl.masks.length) : Effects loose s { s with fcl := c } :=
  .single (.plain ⟨rfl, rfl, rfl, rfl, rfl, rfl, rfl, filters, masks, rfl, rfl⟩ (.inr (.of_eq rfl rfl rfl)))

theorem writeFilter_effects (i : Nat) (v : List Byte) (s : State) :
    Effects loose s (writeFilter i v s).state := by
  unfold writeFilter
  split
  · exact .refl
  · exact fcl_effects List.length_set rfl

theorem writeMask_effects (i : Nat) (v : List Byte) (s : State) :
    Effects loose s (writeMask i v s).state := fcl_effects rfl List.length_set

/-- The slots change, their answers going where they went. -/
theorem anu_effects {s : State} {c : Anu} (h : c.slots.map slotOwner = s.anu.slots.map slotOwner) :
    Effects loose s { s with anu := c } := by
  have hlength : c.slots.length = s.anu.slots.length := by
    have := congrArg List.length h
    simpa using this
  exact .single (.plain ⟨rfl, rfl, rfl, rfl, rfl, rfl, rfl, rfl, rfl, hlength, rfl⟩
    (.inr ⟨h, rfl, fun _ => .refl _⟩))

theorem writeFloor_effects (v : List Byte) (s : State) : Effects loose s (writeFloor v s).state :=
  clampedWrite_effects fun n => anu_effects (by rfl)

/-! ### DTR -/

/-- An entry that keeps its address and its state leaves the picture of the table. -/
theorem picture_set {l : List (Option Server)} {i : Nat} {sv new : Server} (h : l[i]? = some (some sv))
    (address : new.address = sv.address) (state : new.state = sv.state) :
    picture (l.set i (some new)) = picture l := by
  rw [picture, List.map_set, picture]
  refine List.ext_getElem? fun j => ?_
  by_cases hj : i = j
  · subst hj
    obtain ⟨hi, hsv⟩ := List.getElem?_eq_some_iff.mp h
    simp [hi, hsv, address, state]
  · simp [hj]

theorem pinServer_effects {i : Nat} {a : Address} {allowance : BitVec 16} {select : EdgeSelect} {s : State}
    (empty : serverAt i s = none) (unheld : findServer a s = none) :
    Effects loose s (pinServer i a allowance select s) :=
  (serverNotice_effects ..).after (.single (.newServer i _ empty rfl unheld))

theorem clearServer_dtr (i : Nat) (sv : Server) (cause : ServerCause) (s : State) :
    (clearServer i sv cause s).dtr = { s.dtr with servers := s.dtr.servers.set i none } := by
  simp [clearServer, setServer]

/-- An address that only an entry now removed could hold is held by none. -/
theorem findServer_clearServer {a : Address} {i : Nat} {sv : Server} {cause : ServerCause} {s : State}
    (h : findServer a s = none) : findServer a (clearServer i sv cause s) = none := by
  rw [findServer_eq_none_iff] at h ⊢
  intro e he
  rw [clearServer_dtr] at he
  rcases List.mem_or_eq_of_mem_set he with he | he
  · exact h e he
  · rw [he]
    rfl

theorem serverAt_clearServer (i : Nat) (sv : Server) (cause : ServerCause) (s : State) :
    serverAt i (clearServer i sv cause s) = none := by
  rw [serverAt, clearServer_dtr]
  by_cases hi : i < s.dtr.servers.length
  · simp [hi]
  · simp [hi]

/-- Where no other entry holds an address and the entry itself does not, no entry does. -/
theorem findServer_eq_none_of_not_elsewhere {i : Nat} {a : Address} {s : State}
    (helse : heldElsewhere i a s = false) (hi : ∀ sv, serverAt i s = some sv → sv.address ≠ a) :
    findServer a s = none := by
  unfold heldElsewhere at helse
  split at helse
  · assumption
  · next j hj =>
    have hji : j = i := by simpa using helse
    subst hji
    obtain ⟨hlt, hheld, _⟩ := List.findIdx?_eq_some_iff_getElem.mp hj
    cases he : s.dtr.servers[j] with
    | none => simp [he, holdsAddress] at hheld
    | some sv =>
      rw [he, holdsAddress] at hheld
      exact absurd (eq_of_beq hheld) (hi sv (by simp [serverAt, hlt, he]))

theorem pinWrite_effects {i : Nat} {a : Address} {allowance : BitVec 16} {select : EdgeSelect} {s : State}
    (helse : heldElsewhere i a s = false) : Effects loose s (pinWrite i a allowance select s) := by
  unfold pinWrite
  split
  · next hempty =>
    exact pinServer_effects hempty (findServer_eq_none_of_not_elsewhere helse (by simp [hempty]))
  · next sv hsv =>
    split
    · refine dtr_effects (picture_set (serverAt_eq_some_iff.mp hsv) rfl rfl) rfl rfl
    · next hne =>
      have hnone : findServer a s = none :=
        findServer_eq_none_of_not_elsewhere helse fun sv' h => by
          rw [hsv] at h
          cases h
          exact hne
      have hremoved : removeServer i s = clearServer i sv .removed s := by simp [removeServer, hsv]
      rw [hremoved]
      exact (recomputeMajority_effects _).after ((pinServer_effects (serverAt_clearServer ..)
        (findServer_clearServer hnone)).after (.single (.clear i sv _ hsv)))

theorem writeServer_effects (i : Nat) (v : List Byte) (s : State) :
    Effects loose s (writeServer i v s).state := by
  unfold writeServer
  split
  · exact (recomputeMajority_effects _).after (removeServer_effects i s)
  · dsimp only
    split
    · exact .refl
    · split
      · exact .refl
      · next h =>
        simp only [Bool.or_eq_true, Bool.not_eq_true', not_or] at h
        exact pinWrite_effects (Bool.eq_false_iff.mpr h.2)

theorem changeDrift_effects {f : DriftSettings → DriftSettings} {s : State}
    (h : (f s.dtr.settings).silentWarn = s.dtr.settings.silentWarn) : Effects loose s (changeDrift f s) :=
  dtr_effects rfl h rfl

theorem setSilenceTimeout_effects (n : Nat) (s : State) : Effects loose s (setSilenceTimeout n s) := by
  unfold setSilenceTimeout
  dsimp only
  split
  · exact (recomputeMajority_effects _).after ((foldl_effects (fun t i => silenceIfDue_effects i t) _ _).after
      (changeDrift_effects (by rfl)))
  · exact changeDrift_effects rfl

theorem setEvictionTime_effects (n : Nat) (s : State) : Effects loose s (setEvictionTime n s) := by
  unfold setEvictionTime
  dsimp only
  split
  · exact (recomputeMajority_effects _).after ((foldl_effects (fun t i => evictIfDue_effects i t) _ _).after
      (changeDrift_effects (by rfl)))
  · exact changeDrift_effects rfl

theorem writeDriftSetting_effects (i : Nat) (v : List Byte) (s : State) :
    Effects loose s (writeDriftSetting i v s).state := by
  unfold writeDriftSetting
  dsimp only
  split
  case h_1 => exact flagWrite_effects fun b => changeDrift_effects (by rfl)
  case h_8 => exact clampedWrite_effects fun n => setSilenceTimeout_effects n s
  case h_9 => exact clampedWrite_effects fun n => setEvictionTime_effects n s
  case h_10 => exact flagWrite_effects fun b => .single (.silentWarn b)
  case h_11 =>
    exact clampedWrite_effects fun n => (recomputeMajority_effects _).after (changeDrift_effects (by rfl))
  case h_12 => exact .refl
  all_goals exact clampedWrite_effects fun n => changeDrift_effects (by rfl)

/-! ### WRU, DTE, RRG, RPE, EGM, MGU -/

/-- What the invariants read of WRU. -/
def wruCore (w : Wru) : BitVec 54 × BitVec 54 × BitVec 54 × Bool × Option Alert :=
  (w.condition, w.pending, w.lineMask, w.alertLine, w.alert)

theorem wru_effects {s : State} {w : Wru} (h : wruCore w = wruCore s.wru) :
    Effects loose s { s with wru := w } := by
  simp only [wruCore, Prod.mk.injEq] at h
  obtain ⟨condition, pending, lineMask, alertLine, alert⟩ := h
  exact .single (.wru w condition (.inr ⟨alertLine, pending, lineMask⟩) (.inr alert))

theorem writeWarning_effects (i : Nat) (v : List Byte) (s : State) :
    Effects loose s (writeWarning i v s).state := by
  unfold writeWarning
  dsimp only
  split
  · exact .single (.wru _ rfl (.inl rfl) (.inr rfl))
  · exact wru_effects rfl
  · exact writeSelect_effects fun e => wru_effects (by rfl)
  · exact writeSelect_effects fun e => wru_effects (by rfl)
  · exact clampedWrite_effects fun n => wru_effects (by rfl)
  · exact flagWrite_effects fun b => wru_effects (by rfl)
  · exact .refl

theorem writeProfile_effects (i : Nat) (v : List Byte) (s : State) :
    Effects loose s (writeProfile i v s).state := by
  unfold writeProfile
  dsimp only
  split
  · exact flagWrite_effects fun b => changeProfile_effects ..
  · exact clampedWrite_effects fun n => changeProfile_effects ..

/-- The marks of a ring change, and the due check is made if that changes pressure (R168, R180). -/
theorem marksChanged_effects {s : State} (high low : Nat)
    (fit : RingConsistent s → 2 ≤ high ∧ high ≤ Config.ringSlots - s.rrg.reserve ∧ 1 ≤ low ∧ low < high) :
    Effects loose s (marksChanged { s with rrg := { s.rrg with highMark := high, lowMark := low } }) := by
  have hmarks : Effects loose s (setMarks s.rrg.reserve high low s) :=
    .single (.marks _ _ _ fun hring => ⟨hring.2.2.2.2.1, fit hring⟩)
  unfold marksChanged
  dsimp only
  split
  · exact hmarks
  · exact hmarks.trans (dueCheck_effects _)

theorem writeHighMark_effects (n : Nat) (s : State) : Effects loose s (writeHighMark n s).state := by
  refine marksChanged_effects _ _ fun ⟨_, _, _, _, hreserve, hhigh, hroom, hlow, hlt⟩ => ?_
  have hmem := clampNat_mem 2 (Config.ringSlots - s.rrg.reserve) n (by simp only [Config.ringSlots]; omega)
  refine ⟨hmem.1, hmem.2, ?_⟩
  split <;> omega

theorem writeLowMark_effects (n : Nat) (s : State) : Effects loose s (writeLowMark n s).state := by
  refine marksChanged_effects s.rrg.highMark _ fun ⟨_, _, _, _, _, hhigh, hroom, _⟩ => ?_
  have hmem := clampNat_mem 1 (s.rrg.highMark - 1) n (by omega)
  exact ⟨hhigh, hroom, hmem.1, by omega⟩

theorem writeRing_effects (i : Nat) (v : List Byte) (s : State) : Effects loose s (writeRing i v s).state := by
  unfold writeRing
  dsimp only
  split
  · unfold writeReserve
    split
    · exact .refl
    · refine clampedWrite_effects_of_mem (by decide) fun n _ hn => ?_
      refine .single (.marks _ _ _ fun _ => ?_)
      simp only [Config.ringSlots, clampNat]
      omega
  · exact writeHighMark_effects ..
  · exact writeLowMark_effects ..
  · exact .refl

theorem writeReport_effects (i : Nat) (v : List Byte) (s : State) : Effects loose s (writeReport i v s).state := by
  unfold writeReport
  dsimp only
  split
  · exact clampedWrite_effects fun n => (dueCheck_effects _).after (rpe_effects (by rfl))
  · split
    · exact stored_effects (rpe_effects (by rfl))
    · exact clampedWrite_effects fun n => rpe_effects (by rfl)
  · exact .refl

theorem writePort_effects (p : Port) (i : Nat) (v : List Byte) (s : State) :
    Effects loose s (writePort p i v s).state := by
  unfold writePort
  dsimp only
  split
  · exact writeIngressComp_effects ..
  · exact writeEgressComp_effects ..
  · exact clampedWrite_effects fun n => setPort_effects ⟨rfl, rfl, rfl⟩
  · exact .refl

/-- MGU changes but for the port of its response. -/
theorem mgu_effects {s : State} {m : Mgu}
    (h : m.response.map Response.port = s.mgu.response.map Response.port) :
    Effects loose s { s with mgu := m } :=
  .single (.plain ⟨rfl, rfl, rfl, rfl, rfl, rfl, rfl, rfl, rfl, rfl, rfl⟩
    (.inr ⟨rfl, h, fun _ => .refl _⟩))

theorem changeStation_effects (f : Station → Station) (s : State) : Effects loose s (changeStation f s) :=
  mgu_effects rfl

theorem collectorChanged_effects (f : Station → Station) (s : State) :
    Effects loose s (collectorChanged (changeStation f s)) :=
  ((changeStation_effects f s).trans (alertTest_effects _)).trans (dueCheck_effects _)

theorem writeStation_effects (i : Nat) (v : List Byte) (s : State) :
    Effects loose s (writeStation i v s).state := by
  unfold writeStation
  dsimp only
  split
  case h_1 =>
    unfold writeOwn
    dsimp only
    split
    · exact .refl
    · exact stored_effects (changeStation_effects ..)
  case h_6 => exact stored_effects (collectorChanged_effects ..)
  case h_7 => exact portWrite_effects fun p => collectorChanged_effects ..
  case h_9 => exact portWrite_effects fun p => changeStation_effects ..
  case h_13 => exact .refl
  all_goals exact stored_effects (changeStation_effects ..)

/-- A WRITE that has passed the checks of R202. -/
theorem applyWrite_effects (t i : Nat) (v : List Byte) (s : State) :
    Effects loose s (applyWrite t i v s).state := by
  unfold applyWrite
  split
  · exact writeClock_effects ..
  · exact writeServoSetting_effects ..
  · exact writeFilter_effects ..
  · exact writeMask_effects ..
  · exact writeFloor_effects ..
  · exact writeServer_effects ..
  · exact writeDriftSetting_effects ..
  · exact writeWarning_effects ..
  · exact writeProfile_effects ..
  · exact writeRing_effects ..
  · exact writeReport_effects ..
  · exact writePort_effects ..
  · exact writeStation_effects ..
  · exact .refl

end Sys2Proof.Proofs
end

section
/-! SUPPORT. SWAP, DO and a whole management frame as sequences of effects. -/

namespace Sys2Proof.Proofs

open Sys2Proof Sys2Proof.Machine Sys2Proof.Safety

variable {loose : Bool}

/-! ### SWAP -/

/-- An entry changed to one that reads the same leaves what is read of the list. -/
theorem map_modify_of_at {α β : Type} {f : α → β} {g : α → α} {l : List α} {n : Nat}
    (h : ∀ a, l[n]? = some a → f (g a) = f a) : (l.modify n g).map f = l.map f := by
  refine List.ext_getElem? fun i => ?_
  rw [List.getElem?_map, List.getElem?_modify, List.getElem?_map]
  by_cases hi : n = i
  · subst hi
    cases hl : l[n]? with
    | none => rfl
    | some a => simp [h a hl]
  · simp [hi]

/-- An entry changed by a function that does not show leaves what is read of the list. -/
theorem map_modify_of_eq {α β : Type} {f : α → β} {g : α → α} (h : ∀ a, f (g a) = f a) (l : List α) (n : Nat) :
    (l.modify n g).map f = l.map f := map_modify_of_at fun a _ => h a

theorem changeSlot_effects {n : Nat} {f : Slot → Slot} {s : State}
    (h : ∀ sl, slotOwner (f sl) = slotOwner sl) : Effects loose s (changeSlot n f s) :=
  anu_effects (map_modify_of_eq h ..)

theorem slotOwner_zero (sl : Slot) (k : Nat) : slotOwner (sl.zero k) = slotOwner sl := by
  unfold Slot.zero
  split <;> rfl

theorem zeroPortCounter_effects (p : Port) (i : Nat) (s : State) :
    Effects loose s (zeroPortCounter p i s) := by
  unfold zeroPortCounter
  split
  · exact countIngress_effects ..
  · exact countEgress_effects ..

theorem zeroProfileCounter_effects (i : Nat) (s : State) : Effects loose s (zeroProfileCounter i s) := by
  unfold zeroProfileCounter
  split
  · exact dte_effects rfl rfl
  · exact changeProfile_effects ..

theorem zeroCounter_effects (t i : Nat) (s : State) : Effects loose s (zeroCounter t i s) := by
  unfold zeroCounter
  split
  · exact countDse_effects ..
  · exact fcl_effects (List.length_modify ..) rfl
  · exact changeSlot_effects fun sl => slotOwner_zero sl _
  · refine dtr_effects (map_modify_of_eq (fun e => ?_) ..) rfl rfl
    cases e <;> rfl
  · exact countDtr_effects ..
  · exact wru_effects (by rfl)
  · exact zeroProfileCounter_effects ..
  · exact .single (.ringCount ..)
  · exact rpe_effects (by rfl)
  · exact zeroPortCounter_effects ..
  · exact mgu_effects rfl
  · exact .refl

theorem swapCounter_effects (t i : Nat) (v old : List Byte) (s : State) :
    Effects loose s (swapCounter t i v old s).state := by
  unfold swapCounter
  split
  · exact zeroCounter_effects ..
  · exact .refl

/-- A SWAP of a WARNINGS entry. -/
theorem swapWarning_effects (i : Nat) (v old : List Byte) (s : State) :
    Effects loose s (swapWarning i v old s).state := by
  unfold swapWarning
  split
  · exact .single (.wru _ rfl (.inl rfl) (.inr rfl))
  · exact flagWrite_effects fun b => wru_effects (by rfl)
  · exact swapCounter_effects ..

theorem applySwap_effects (t i : Nat) (v old : List Byte) (s : State) :
    Effects loose s (applySwap t i v old s).state := by
  unfold applySwap
  split
  · split
    · exact flagWrite_effects fun b => changeSlot_effects fun sl => rfl
    · exact swapCounter_effects ..
  · exact swapWarning_effects ..
  · exact swapCounter_effects ..

/-! ### DO (11.5) -/

theorem doSetTime_effects (ing : Ingress) (args : List Byte) (s : State) :
    Effects loose s (doSetTime ing args s).state := by
  unfold doSetTime
  dsimp only
  split
  · exact .refl
  split
  · exact .refl
  split
  · exact .refl
  split
  · exact stored_effects (applyStep_effects ..)
  · exact .refl

theorem doStep_effects (args : List Byte) (s : State) : Effects loose s (doStep args s).state := by
  unfold doStep
  dsimp only
  split
  · exact stored_effects (applyStep_effects ..)
  · exact .refl

theorem doStart_effects (s : State) : Effects loose s (doStart s).state := by
  unfold doStart
  split
  · exact .refl
  · exact stored_effects (.single .start)

theorem doFlush_effects (s : State) : Effects loose s (doFlush s).state := by
  unfold doFlush
  split
  · exact rpe_effects (by rfl)
  · next h => exact .single (.flush h)

theorem doReportNow_effects (s : State) : Effects loose s (doReportNow s).state :=
  (dueCheck_effects _).after (rpe_effects (by rfl))

theorem resetServer_effects (i : Nat) (s : State) : Effects loose s (resetServer s i) := by
  unfold resetServer
  split
  · exact .refl
  · next sv hsv =>
    split
    · extract_lets new s1 s2
      have hs2 : s2 = offerSome (if sv.state = .drifting then
          some (changeNotice i new .drifting .leaveDrift s1) else none) s1 := by
        unfold s2
        split <;> rfl
      have hsettings : s2.dtr.settings = s.dtr.settings := by
        rw [hs2, offerSome_dtr]
        rfl
      have hwarns : warns s.dtr.settings.silentWarn new.state = false := rfl
      rw [hsettings, ← hwarns, hs2, changeServer_of_notice]
      exact .single (.server i sv new _ _ hsv rfl)
    · exact .single (.clear i sv _ hsv)

theorem doResetTracking_effects (s : State) : Effects loose s (doResetTracking s).state := by
  unfold doResetTracking
  split
  · exact .refl
  · exact stored_effects ((recomputeMajority_effects _).after (foldl_effects (fun t i => resetServer_effects i t) ..))

/-- The counters of the frame path, of the answers, of the ports and of MGU at zero (R210). -/
def zeroFrameCounters (s : State) : State :=
  { s with
    fcl := { s.fcl with
      filters := s.fcl.filters.map fun f => { f with hits := 0 }
      ctr := ⟨{}, {}⟩ }
    anu := { s.anu with slots := s.anu.slots.map zeroSlot }
    egm := ⟨{ s.egm.u with ctr := {} }, { s.egm.k with ctr := {} }⟩
    mgu := { s.mgu with ctr := {} } }

theorem zeroFrameCounters_effects (s : State) : Effects loose s (zeroFrameCounters s) := by
  refine .single (.plain ⟨rfl, rfl, rfl, rfl, rfl, rfl, rfl, List.length_map .., rfl, List.length_map .., rfl⟩
    (.inr ⟨?_, rfl, fun p => ?_⟩))
  · simp only [zeroFrameCounters, List.map_map]
    rfl
  · cases p <;> exact ⟨rfl, rfl, rfl⟩

theorem picture_zeroQueries (l : List (Option Server)) :
    picture (l.map (Option.map zeroQueries)) = picture l := by
  simp only [picture, List.map_map]
  refine List.map_congr_left fun e _ => ?_
  cases e <;> rfl

theorem resetCounters_effects (s : State) : Effects loose s (resetCounters s) := by
  let s1 := zeroFrameCounters s
  let s2 : State := { s1 with dse := { s1.dse with ctr := {} } }
  let s3 : State := { s2 with dtr := { s2.dtr with
    servers := s2.dtr.servers.map (Option.map zeroQueries), ctr := {} } }
  let s4 : State := { s3 with wru := { s3.wru with ctr := {} } }
  let s5 : State := { s4 with dte := { s4.dte with profiles := s4.dte.profiles.map zeroProfile, discarded := 0 } }
  let s6 : State := { s5 with rrg := { s5.rrg with ctr := {} } }
  have h6 : Effects loose s6 (resetCounters s) := rpe_effects (by rfl)
  have h5 : Effects loose s5 s6 := .single (.ringCount _ _)
  have h4 : Effects loose s4 s5 := dte_effects (List.length_map ..) rfl
  have h3 : Effects loose s3 s4 := wru_effects (by rfl)
  have h2 : Effects loose s2 s3 := dtr_effects (picture_zeroQueries _) rfl rfl
  have h1 : Effects loose s1 s2 := dse_effects (by rfl)
  exact (zeroFrameCounters_effects s).trans (h1.trans (h2.trans (h3.trans (h4.trans (h5.trans h6)))))

theorem applyDo_effects (ing : Ingress) (code : Nat) (args : List Byte) (s : State) :
    Effects loose s (applyDo ing code args s).state := by
  unfold applyDo
  split
  · exact doSetTime_effects ..
  · exact doStep_effects ..
  · exact doStart_effects ..
  · exact stored_effects (.single .stop)
  · exact doFlush_effects ..
  · exact doReportNow_effects ..
  · exact offer_effects ..
  · exact doResetDating_effects ..
  · exact doResetTracking_effects ..
  · exact stored_effects (resetCounters_effects ..)
  · exact stored_effects .refl

/-! ### A request and a frame of requests -/

theorem doWrite_effects (t i : Nat) (v : List Byte) (s : State) : Effects loose s (doWrite t i v s).state := by
  unfold doWrite
  split
  · split
    · exact applyWrite_effects ..
    · exact .refl
  · exact .refl
  · exact .refl

theorem doSwap_effects (t i : Nat) (v old : List Byte) (s : State) :
    Effects loose s (doSwap t i v old s).state := by
  unfold doSwap
  split
  · split
    · exact applySwap_effects ..
    · exact .refl
  · exact .refl
  · exact .refl

theorem doRead_state (l : List (List Byte)) (i : Nat) (param : List Byte) (s : State) :
    (doRead l i param s).state = s := by
  unfold doRead
  split <;> rfl

theorem doEntry_effects (r : Request) (s : State) : Effects loose s (doEntry r s).state := by
  unfold doEntry
  split
  · exact .refl
  · split
    · exact .refl
    · split
      · rw [doRead_state]
      · exact doWrite_effects ..
      · exact doSwap_effects ..

theorem doCommand_effects (ing : Ingress) (param : List Byte) (s : State) :
    Effects loose s (doCommand ing param s).state := by
  unfold doCommand
  split
  · exact .refl
  · split
    · exact .refl
    · split
      · exact applyDo_effects ..
      · exact .refl

theorem execute_effects (ing : Ingress) (r : Request) (s : State) :
    Effects loose s (execute ing r s).state := by
  unfold execute
  split
  · exact doCommand_effects ..
  · split
    · exact doEntry_effects ..
    · exact .refl

/-- The model's own serial and the reset input are read by no invariant. -/
theorem serial_effects (n : Nat) (s : State) : Effects loose s { s with serial := n } :=
  .single (.plain ⟨rfl, rfl, rfl, rfl, rfl, rfl, rfl, rfl, rfl, rfl, rfl⟩ (.inr (.of_eq rfl rfl rfl)))

theorem takeRequest_effects (ing : Ingress) (g : Progress) (r : Request) :
    Effects loose g.state (takeRequest ing g r).state := by
  unfold takeRequest
  split
  · exact .refl
  · exact ((serial_effects ..).trans (execute_effects ..)).trans (finish_effects _)

theorem takeRequests_effects (ing : Ingress) (rs : List Request) (g : Progress) :
    Effects loose g.state (rs.foldl (takeRequest ing) g).state := by
  induction rs generalizing g with
  | nil => exact .refl
  | cons r rs ih => exact (takeRequest_effects ing g r).trans (ih _)

theorem countMgu_effects (f : MguCounters → MguCounters) (s : State) : Effects loose s (countMgu f s) :=
  mgu_effects rfl

/-- The part as an accepted frame finds it, its requests not executed yet (R200). -/
theorem acceptFrame_effects (p : Port) (s : State) :
    Effects loose s (countMgu (fun c => { c with accepted := bump c.accepted })
      { s with mgu := { s.mgu with managerPort := p } }) :=
  (countMgu_effects ..).after (mgu_effects rfl)

end Sys2Proof.Proofs
end

section
/-! SUPPORT. Answering, the egress merge, the timers and the boot as sequences of effects, and every command
as one. -/

namespace Sys2Proof.Proofs

open Sys2Proof Sys2Proof.Machine Sys2Proof.Safety

variable {loose : Bool}

/-! ### Answering -/

/-- The frame path, the answers, the ports and the management frame change, whatever the queues say. -/
theorem core_effects {s t : State} (h : SameCore s t) : Effects true s t := .single (.plain h (.inl rfl))

theorem sameCore_setPort (p : Port) (e : Egm) (s : State) : SameCore s (s.setPort p e) :=
  ⟨rfl, rfl, rfl, rfl, rfl, rfl, rfl, rfl, rfl, rfl, rfl⟩

theorem sameCore_changeSlot (n : Nat) (f : Slot → Slot) (s : State) : SameCore s (changeSlot n f s) :=
  ⟨rfl, rfl, rfl, rfl, rfl, rfl, rfl, rfl, rfl, List.length_modify .., rfl⟩

theorem sameCore_mgu (m : Mgu) (s : State) : SameCore s { s with mgu := m } :=
  ⟨rfl, rfl, rfl, rfl, rfl, rfl, rfl, rfl, rfl, rfl, rfl⟩

theorem completeSlot_effects (n : Nat) (a : Address) (s : State) :
    Effects loose s (completeSlot n a s) := by
  unfold completeSlot
  split
  · exact .refl
  · split
    · exact .refl
    · refine changeSlot_effects fun sl => ?_
      simp only [slotOwner, Option.map_map]
      rfl

theorem queueAnswer_effects (n : Nat) (p : Port) (s : State) : Effects true s (queueAnswer n p s) := by
  unfold queueAnswer
  split
  · exact core_effects (sameCore_setPort ..)
  · exact (core_effects (sameCore_changeSlot ..)).after (countEgress_effects ..)

/-- What follows the claim of a slot, up to the queuing of its entry. -/
theorem claimed_effects (n : Nat) (p : Port) (a : Arriving) (s : State) :
    Effects loose (claimSlot n p a s)
      (completeSlot n (sourceAddress a.octets) (trackArrived a (claimSlot n p a s))) :=
  (trackQuery_effects ..).trans (completeSlot_effects ..)

theorem chargeOverrun_effects (m : Nat) (p : Port) (s : State) : Effects loose s (chargeOverrun m p s) :=
  (countIngress_effects ..).trans (changeSlot_effects fun _ => rfl)

/-- A query without a claim (R68, R69). -/
theorem unclaimed_effects {p : Port} {a : Arriving} {s : State}
    (h : ∀ i n, queryWalk a s ≠ .claim i n) : Effects loose s (takeQuery p a s) := by
  unfold takeQuery
  split
  · next i n hw => exact absurd hw (h i n)
  · exact (chargeOverrun_effects ..).trans (trackQuery_effects ..)
  · dsimp only
    split
    · exact countIngress_effects ..
    · exact (countHit_effects ..).trans (countIngress_effects ..)

theorem takeQuery_effects (p : Port) (a : Arriving) (s : State) : Effects true s (takeQuery p a s) := by
  cases hw : queryWalk a s with
  | claim i n =>
    simp only [takeQuery, hw]
    exact (countHit_effects i s).trans ((core_effects (sameCore_changeSlot ..)).trans
      ((claimed_effects n p a _).trans (queueAnswer_effects ..)))
  | overrun m => exact unclaimed_effects fun i n h => by simp [hw] at h
  | dropped hit => exact unclaimed_effects fun i n h => by simp [hw] at h

theorem queueResponse_effects (p : Port) (o : List Byte) (resets : Bool) (s : State) :
    Effects true s (queueResponse p o resets s) := by
  unfold queueResponse
  dsimp only
  split
  · exact (core_effects (sameCore_setPort ..)).after (core_effects (sameCore_mgu ..))
  · exact (core_effects (sameCore_mgu ..)).after ((countEgress_effects ..).after (core_effects (sameCore_mgu ..)))

theorem takeManagement_effects (p : Port) (a : Arriving) (s : State) :
    Effects true s (takeManagement p a s) := by
  unfold takeManagement
  split
  · exact countMgu_effects ..
  split
  · exact countMgu_effects ..
  split
  · exact countMgu_effects ..
  · exact (queueResponse_effects ..).after ((takeRequests_effects a.ingress _ { state := _ }).after
      (acceptFrame_effects p s))

/-! ### The egress merge -/

theorem putOnLine_effects (p : Port) (src : Source) (o : List Byte) (s : State) :
    Effects true s (putOnLine p src o s) := core_effects (sameCore_setPort ..)

/-- The alert in progress, its due flag, the call for a test and the counters change. -/
theorem wruAlert_effects {s : State} {w : Wru} (condition : w.condition = s.wru.condition)
    (line : w.alertLine = s.wru.alertLine) (pending : w.pending = s.wru.pending)
    (mask : w.lineMask = s.wru.lineMask) : Effects true s { s with wru := w } :=
  .single (.wru w condition (.inr ⟨line, pending, mask⟩) (.inl rfl))

theorem startPass_effects (p : Port) (s : State) : Effects true s (startPass p s) := by
  unfold startPass
  split
  · exact .refl
  · split
    · exact core_effects (sameCore_setPort ..)
    · dsimp only
      split
      · exact (core_effects (sameCore_setPort ..)).after (countEgress_effects ..)
      · exact core_effects (sameCore_setPort ..)

theorem recordSendTime_isSome (q : Seq) (t1 : Stamp) (e : Epoch) (o : Option Outstanding) :
    (recordSendTime q t1 e o).isSome = o.isSome := by
  unfold recordSendTime
  split
  · rfl
  · split <;> rfl

theorem startEntry_effects (p : Port) (src : Source) (s : State) : Effects true s (startEntry p src s) := by
  cases src with
  | slot n =>
    simp only [startEntry, startAnswer]
    split
    · exact .refl
    · exact (core_effects (sameCore_changeSlot ..)).after (putOnLine_effects ..)
  | probe =>
    simp only [startEntry, startProbe]
    split
    · exact .refl
    · refine Effects.after (.single (.dse _ rfl rfl rfl rfl rfl (fun h => .inl ?_) (.inr rfl)))
        (putOnLine_effects ..)
      exact (recordSendTime_isSome ..) ▸ h
  | response =>
    simp only [startEntry, startResponse]
    split
    · exact .refl
    · exact putOnLine_effects ..
  | alert =>
    simp only [startEntry, startAlert]
    split
    · exact .refl
    split
    · exact (putOnLine_effects ..).after (wruAlert_effects rfl rfl rfl rfl)
    split
    · exact .refl
    split
    · exact (putOnLine_effects ..).after (wruAlert_effects rfl rfl rfl rfl)
    · exact .refl
  | report => exact (putOnLine_effects ..).after (.single (.rpe _ (.inr ⟨rfl, .inr rfl⟩)))

theorem takeBoundary_effects (p : Port) (s : State) : Effects true s (takeBoundary p s) := by
  unfold takeBoundary
  split
  · exact .refl
  · exact startPass_effects ..
  · exact startEntry_effects ..

/-- A PROBE frame no longer in a queue (R27). -/
def forgetProbe (s : State) : State := { s with dse := { s.dse with frame := none } }

theorem forgetProbe_effects (s : State) : Effects true s (forgetProbe s) :=
  .single (.dse _ rfl rfl rfl rfl rfl .inl (.inl rfl))

theorem probeEnded_effects (s : State) : Effects loose (forgetProbe s) (probeEnded s) :=
  (releaseHeld_effects (by rfl)).after (countDse_effects ..)

theorem probeDropped_effects (s : State) : Effects loose (forgetProbe s) (probeDropped s) := by
  unfold probeDropped
  split
  · next h => rw [forgetProbe, ← h]
  · exact (releaseHeld_effects (by rw [loseOutstanding_frame_kept]; rfl)).after
      ((loseOutstanding_effects ..).after (countDse_effects ..))

/-- MGU is idle: it holds no response (R208). -/
def forgetResponse (s : State) : State := { s with mgu := { s.mgu with response := none } }

theorem responseEnded_effects (s : State) : Effects true s (responseEnded s) := by
  unfold responseEnded
  extract_lets resets m c t
  have ht : Effects true s t := core_effects (sameCore_mgu ..)
  split
  · exact ht.tail (.softReset rfl)
  · exact ht

theorem settleAlert_effects (a : Alert) (s : State) : Effects true s (settleAlert a s) := by
  unfold settleAlert
  split
  · exact wruAlert_effects rfl rfl rfl rfl
  · exact (callAlertTest_effects _).after (wruAlert_effects rfl rfl rfl rfl)

theorem alertEnded_effects (p : Port) (s : State) : Effects true s (alertEnded p s) := by
  unfold alertEnded
  split
  · exact .refl
  split
  · exact (settleAlert_effects ..).after (wruAlert_effects rfl rfl rfl rfl)
  split
  · exact .refl
  split
  · exact (settleAlert_effects ..).after (wruAlert_effects rfl rfl rfl rfl)
  · exact .refl

theorem reportEnded_effects (s : State) : Effects loose (deliverReport s) (reportEnded s) := by
  refine (dueCheck_effects _).after ((deferredFlush_effects (by rfl)).after ?_)
  exact rpe_effects (s := deliverReport s) (by rfl)

theorem reportDropped_effects (s : State) : Effects loose (clearReport s) (reportDropped s) :=
  (deferredFlush_effects (by rfl)).after (rpe_effects (s := clearReport s) (by rfl))

theorem clearReport_effects (s : State) : Effects true s (clearReport s) :=
  .single (.rpe _ (.inr ⟨rfl, .inl rfl⟩))

theorem freeSlot_effects (n : Nat) (f : Slot → Slot) (s : State) : Effects true s (freeSlot n f s) :=
  core_effects ⟨rfl, rfl, rfl, rfl, rfl, rfl, rfl, rfl, rfl, List.length_modify .., rfl⟩

theorem ownerEnded_effects (p : Port) (src : Source) (s : State) : Effects true s (ownerEnded p src s) := by
  cases src with
  | slot n => exact freeSlot_effects (f := fun sl => { sl with sent := bump sl.sent }) ..
  | probe => exact (forgetProbe_effects s).trans (probeEnded_effects s)
  | response => exact responseEnded_effects s
  | alert => exact alertEnded_effects p s
  | report => exact (Relation.ReflTransGen.single (.deliver rfl)).trans (reportEnded_effects s)

theorem takeEgressEnd_effects (p : Port) (s : State) : Effects true s (takeEgressEnd p s) := by
  unfold takeEgressEnd
  split
  · exact .refl
  · exact (ownerEnded_effects ..).after (core_effects (sameCore_setPort ..))
  · split
    · exact .refl
    · split
      · exact .refl
      · exact core_effects (sameCore_setPort ..)

theorem alertDropped_effects (p : Port) (s : State) : Effects true s (alertDropped p s) := by
  unfold alertDropped
  split
  · exact .refl
  · exact (settleAlert_effects ..).after (wruAlert_effects rfl rfl rfl rfl)

theorem ownerDropped_effects (p : Port) (src : Source) (s : State) :
    Effects true s (ownerDropped p src s) := by
  cases src with
  | slot n => exact freeSlot_effects (f := fun sl => { sl with dropped := bump sl.dropped }) ..
  | probe => exact (forgetProbe_effects s).trans (probeDropped_effects s)
  | response => exact core_effects (sameCore_mgu ..)
  | alert => exact alertDropped_effects p s
  | report => exact (clearReport_effects s).trans (reportDropped_effects s)

theorem dropEntry_effects (p : Port) (s : State) (e : QueueEntry) : Effects true s (dropEntry p s e) :=
  (countEgress_effects ..).trans (ownerDropped_effects ..)

theorem loseLink_effects (p : Port) (s : State) : Effects true s (loseLink p s) :=
  (foldl_effects (fun t e => dropEntry_effects p t e) _ _).after ((setArriving_effects ..).after
    ((core_effects (sameCore_setPort ..)).after (endsBad_effects ..)))

/-- What the rise of a link calls for (R124, R180, R197). -/
theorem raised_effects (p : Port) (s : State) :
    Effects loose (s.setPort p { s.port p with link := true }) (raiseLink p s) := by
  unfold raiseLink
  dsimp only
  split
  · exact (alertTest_effects _).trans (dueCheck_effects _)
  · exact .refl

/-! ### The clock, the timers and the boot -/

theorem tickCounters_effects (s : State) : Effects loose s (tickCounters s) := by
  refine .single (.clock _ rfl rfl rfl rfl fun hvalid hrate => ?_)
  obtain ⟨hlo, hhi⟩ := rateConsistent_k_bounds hrate
  exact (tick_spec hvalid hlo hhi).2.1

/-- A command answers a next state, which effects lead to. -/
def Runs (loose : Bool) (c : Instr) (s : State) : Prop := ∃ t, exec c s = .next t ∧ Effects loose s t

/-- A command whose effect takes place under a condition only. -/
theorem runs_of_ite {c : Instr} {s t u : State} {b : Prop} [Decidable b]
    (h : exec c s = if b then .next t else .next u) (ht : b → Effects loose s t)
    (hu : ¬ b → Effects loose s u) : Runs loose c s := by
  by_cases hb : b
  · exact ⟨t, by rw [h, if_pos hb], ht hb⟩
  · exact ⟨u, by rw [h, if_neg hb], hu hb⟩

theorem finished {s t : State} (h : Effects loose s t) : Effects loose s (finish t) :=
  h.trans (finish_effects t)

theorem judgeBoot_effects (reply : BootReply) (s : State) : Effects loose s (judgeBoot reply s) := by
  unfold judgeBoot
  split
  · exact mgu_effects rfl
  · split <;> exact mgu_effects rfl

theorem startPulse_effects (s : State) : Effects loose s (startPulse s) := rcu_effects (by rfl)

theorem ticked_effects (s : State) :
    Effects loose s (if pulseBegins s then startPulse (tickCounters s) else tickCounters s) := by
  by_cases h : pulseBegins s = true
  · rw [if_pos h]
    exact (tickCounters_effects s).trans (startPulse_effects _)
  · rw [if_neg h]
    exact tickCounters_effects s

theorem oscillatorTick_runs (s : State) : Runs loose .oscillatorTick s := by
  by_cases hheld : s.resetHeld = true
  · exact ⟨s, by rw [exec, execOscillatorTick, if_pos hheld], .refl⟩
  · exact ⟨_, exec_oscillatorTick (Bool.eq_false_iff.mpr hheld), ticked_effects s⟩

theorem isSome_of_timerReached {now : Uptime} {t : Option Uptime} (h : timerReached now t = true) :
    t.isSome = true := by
  cases t with
  | none => cases h
  | some _ => rfl

theorem startedFrame_effects (p : Port) (a : Arriving) (s : State) :
    Effects loose s (if s.mgu.reading then passOn p a s else s.setArriving p (some a)) := by
  split
  · exact passOn_effects ..
  · exact setArriving_effects ..

/-- Whether a command leaves the owners of the origination queues and what is in egress as they agree. -/
def calm : Instr → Bool
  | .hardReset | .queryEnd .. | .frameBoundary .. | .egressEnd .. | .linkLoss .. | .linkUp .. | .mgmtReqEnd ..
    => false
  | _ => true

theorem frameStart_runs (p : Port) (flow : Flow) (first : Byte) (s : State) :
    Runs loose (.frameStart p flow first) s :=
  runs_of_ite rfl (fun _ => (startedFrame_effects ..).after (applyFlow_effects flow s))
    (fun _ => applyFlow_effects flow s)

theorem gtpTransitWalk_runs (p : Port) (flow : Flow) (s : State) : Runs loose (.gtpTransitWalk p flow) s := by
  have hflow := applyFlow_effects (loose := loose) flow s
  cases ha : (applyFlow flow s).arriving p with
  | none => exact ⟨_, by simp only [exec, execGtpTransitWalk, ha], hflow⟩
  | some a =>
    refine ⟨_, by simp only [exec, execGtpTransitWalk, ha]; rfl, ?_⟩
    split
    · exact hflow.trans (transitWalk_effects ..)
    · exact hflow

/-- A calm command is a sequence of effects that leave the queues in agreement. -/
theorem calm_runs {c : Instr} (h : calm c = true) (s : State) : Runs loose c s := by
  cases c with
  | hardReset => cases h
  | queryEnd => cases h
  | frameBoundary => cases h
  | egressEnd => cases h
  | linkLoss => cases h
  | linkUp => cases h
  | mgmtReqEnd => cases h
  | bootReadEnd reply => exact runs_of_ite rfl (fun _ => judgeBoot_effects reply s) (fun _ => .refl)
  | bootReadTimeout => exact runs_of_ite rfl (fun _ => judgeBoot_effects .noReply s) (fun _ => .refl)
  | oscillatorTick => exact oscillatorTick_runs s
  | pulseWidthExpiry => exact runs_of_ite rfl (fun _ => rcu_effects (by rfl)) (fun _ => .refl)
  | phaseTimerExpiry =>
    exact runs_of_ite rfl
      (fun _ => .single (.rate s.rcu.f 0 none (.inr rfl) (fun _ => .inl rfl) (fun _ => rfl))) (fun _ => .refl)
  | frameStart p flow first => exact frameStart_runs p flow first s
  | forPartDecision p flow => exact ⟨_, rfl, applyFlow_effects flow s⟩
  | gtpTransitWalk p flow => exact gtpTransitWalk_runs p flow s
  | passThroughReady p flow => exact ⟨_, rfl, applyFlow_effects flow s⟩
  | frameEnd p flow => exact ⟨_, rfl, endsGood_effects fun a t => countDropped_effects ..⟩
  | frameBadEnd p flow => exact ⟨_, rfl, (applyFlow_effects flow s).trans (lineEndsBad_effects ..)⟩
  | echoEnd p flow => exact ⟨_, rfl, finished (endsGood_effects fun a t => takeEcho_effects a t)⟩
  | probeTimerExpiry =>
    exact runs_of_ite rfl (fun h => finished (probeExpiry_effects (isSome_of_timerReached h))) (fun _ => .refl)
  | growthTimerExpiry =>
    refine runs_of_ite rfl (fun h => finished (growthExpiry_effects ?_)) (fun _ => .refl)
    simp only [Bool.and_eq_true, beq_iff_eq] at h
    exact h.2
  | storageCommandEnd p flow => exact ⟨_, rfl, finished (endsGood_effects fun a t => takeCommand_effects a t)⟩
  | storageCompletionEnd p flow =>
    exact ⟨_, rfl, finished (endsGood_effects fun a t => takeCompletion_effects a t)⟩
  | exchangeDeadline d => exact runs_of_ite rfl (fun _ => finished (expireDeadline_effects d s)) (fun _ => .refl)
  | reportTimerExpiry =>
    exact runs_of_ite rfl (fun _ => (dueCheck_effects _).after (rpe_effects (by rfl))) (fun _ => .refl)
  | holdOffExpiry => exact ⟨_, rfl, alertTest_effects s⟩
  | serverSilence n => exact ⟨_, rfl, finished ((recomputeMajority_effects _).after (silenceIfDue_effects ..))⟩
  | serverEviction n => exact ⟨_, rfl, finished ((recomputeMajority_effects _).after (evictIfDue_effects ..))⟩
  | resetInputRelease =>
    refine runs_of_ite rfl (fun _ => ?_) (fun _ => .refl)
    exact .single (.plain ⟨rfl, rfl, rfl, rfl, rfl, rfl, rfl, rfl, rfl, rfl, rfl⟩
      (.inr ⟨rfl, rfl, fun _ => .refl _⟩))

/-- Every command is a sequence of effects. -/
theorem exec_runs (c : Instr) (s : State) : Runs true c s := by
  by_cases hcalm : calm c = true
  · exact calm_runs hcalm s
  · have hflow (fl : Flow) := applyFlow_effects (loose := true) fl s
    cases c with
    | hardReset => exact ⟨_, rfl, .single (.hardReset rfl)⟩
    | queryEnd p flow => exact ⟨_, rfl, finished (endsGood_effects fun a t => takeQuery_effects p a t)⟩
    | frameBoundary p flow =>
      exact runs_of_ite rfl (fun _ => (hflow flow).trans (takeBoundary_effects ..)) (fun _ => hflow flow)
    | egressEnd p flow => exact ⟨_, rfl, finished ((hflow flow).trans (takeEgressEnd_effects ..))⟩
    | linkLoss p flow =>
      exact runs_of_ite rfl (fun _ => finished ((hflow flow).trans (loseLink_effects ..))) (fun _ => hflow flow)
    | linkUp p =>
      exact runs_of_ite rfl (fun _ => .refl)
        (fun _ => (raised_effects p s).after (core_effects (sameCore_setPort ..)))
    | mgmtReqEnd p flow => exact ⟨_, rfl, finished (endsGood_effects fun a t => takeManagement_effects p a t)⟩
    | _ => exact absurd rfl hcalm

/-- Every step is a command's effects on the state with the queue's rest, or idles. -/
theorem step_effects {s t : State} (h : step s = .next t) :
    t = s ∨ ∃ c rest, s.pending = c :: rest ∧ exec c { s with pending := rest } = .next t ∧
      Effects true { s with pending := rest } t := by
  unfold step at h
  split at h
  · cases h
    exact .inl rfl
  · next c rest hpending =>
    obtain ⟨u, hexec, hu⟩ := exec_runs c { s with pending := rest }
    rw [hexec] at h
    cases h
    exact .inr ⟨c, rest, hpending, hexec, hu⟩

/-- What every effect keeps and the queue of commands does not show, every step keeps. -/
theorem keptBySteps_of_effects {P : State → Prop} (hqueue : ∀ s rest, P s → P { s with pending := rest })
    (h : ∀ s t, Effect true s t → P s → P t) : KeptBySteps P := by
  intro s t hs hstep
  rcases step_effects hstep with rfl | ⟨c, rest, _, _, heffects⟩
  · exact hs
  · exact heffects.keeps h (hqueue s rest hs)

end Sys2Proof.Proofs
end

section
/-! SUPPORT. What the effects leave as it was, and the invariants of the clock and of the discipline: rack
time, the rate, the rate of holdover, and the timers. -/

namespace Sys2Proof.Proofs

open Sys2Proof Sys2Proof.Machine Sys2Proof.Safety

/-! ### Frames -/

@[simp] theorem offerSome_frame (r : Option Record) (s : State) :
    (offerSome r s).rcu = s.rcu ∧ (offerSome r s).dse = s.dse ∧ (offerSome r s).fcl = s.fcl ∧
      (offerSome r s).anu = s.anu ∧ (offerSome r s).dte = s.dte ∧ (offerSome r s).mgu = s.mgu ∧
      (offerSome r s).pending = s.pending := by
  cases r <;> simp [offerSome]

@[simp] theorem changeServer_frame (i : Nat) (old new : Server) (mid : Bool) (r : Option Record) (s : State) :
    (changeServer i old new mid r s).rcu = s.rcu ∧ (changeServer i old new mid r s).dse = s.dse ∧
      (changeServer i old new mid r s).fcl = s.fcl ∧ (changeServer i old new mid r s).anu = s.anu ∧
      (changeServer i old new mid r s).dte = s.dte ∧ (changeServer i old new mid r s).mgu = s.mgu ∧
      (changeServer i old new mid r s).pending = s.pending := by
  simp [changeServer, setServer]

@[simp] theorem changeServer_dtr (i : Nat) (old new : Server) (mid : Bool) (r : Option Record) (s : State) :
    (changeServer i old new mid r s).dtr = { s.dtr with servers := s.dtr.servers.set i (some new) } := by
  simp [changeServer, setServer]

@[simp] theorem beginHoldover_frame (s : State) :
    (beginHoldover s).rcu = (withdrawPhase (learnedRate s) s).rcu ∧ (beginHoldover s).fcl = s.fcl ∧
      (beginHoldover s).anu = s.anu ∧ (beginHoldover s).dtr = s.dtr ∧ (beginHoldover s).dte = s.dte ∧
      (beginHoldover s).mgu = s.mgu ∧ (beginHoldover s).pending = s.pending := by
  simp [beginHoldover]

@[simp] theorem setMarks_frame (n high low : Nat) (s : State) :
    (setMarks n high low s).rcu = s.rcu ∧ (setMarks n high low s).dse = s.dse ∧
      (setMarks n high low s).fcl = s.fcl ∧ (setMarks n high low s).anu = s.anu ∧
      (setMarks n high low s).dtr = s.dtr ∧ (setMarks n high low s).wru = s.wru ∧
      (setMarks n high low s).dte = s.dte ∧ (setMarks n high low s).rpe = s.rpe ∧
      (setMarks n high low s).egm = s.egm ∧ (setMarks n high low s).mgu = s.mgu ∧
      (setMarks n high low s).pending = s.pending := by
  simp [setMarks]

@[simp] theorem deliverReport_frame (s : State) :
    (deliverReport s).rcu = s.rcu ∧ (deliverReport s).dse = s.dse ∧ (deliverReport s).fcl = s.fcl ∧
      (deliverReport s).anu = s.anu ∧ (deliverReport s).dtr = s.dtr ∧ (deliverReport s).wru = s.wru ∧
      (deliverReport s).dte = s.dte ∧ (deliverReport s).egm = s.egm ∧ (deliverReport s).mgu = s.mgu ∧
      (deliverReport s).pending = s.pending := by
  simp [deliverReport]

/-- What every step of a fold leaves, the fold leaves. -/
theorem foldl_keeps {α β : Type} {f : State → α → State} (g : State → β) (h : ∀ s x, g (f s x) = g s)
    (l : List α) (s : State) : g (l.foldl f s) = g s := by
  induction l generalizing s with
  | nil => rfl
  | cons x l ih => rw [List.foldl_cons, ih, h]

/-- What the edges of silent-warn leave, a change of silent-warn leaves, but for the setting. -/
theorem setSilentWarn_keeps {β : Type} (g : State → β) (h : ∀ on s i, g (silentWarnEdge on s i) = g s)
    (on : Bool) (s : State) :
    g (setSilentWarn on s) = g (changeDrift (fun t => { t with silentWarn := on }) s) := by
  unfold setSilentWarn
  dsimp only
  split
  · rfl
  · exact foldl_keeps g (h on) ..

@[simp] theorem setSilentWarn_frame (on : Bool) (s : State) :
    (setSilentWarn on s).rcu = s.rcu ∧ (setSilentWarn on s).dse = s.dse ∧
      (setSilentWarn on s).fcl = s.fcl ∧ (setSilentWarn on s).anu = s.anu ∧
      (setSilentWarn on s).dte = s.dte ∧ (setSilentWarn on s).rrg = s.rrg ∧
      (setSilentWarn on s).rpe = s.rpe ∧ (setSilentWarn on s).egm = s.egm ∧
      (setSilentWarn on s).mgu = s.mgu ∧ (setSilentWarn on s).pending = s.pending := by
  refine ⟨?_, ?_, ?_, ?_, ?_, ?_, ?_, ?_, ?_, ?_⟩ <;>
    exact setSilentWarn_keeps _ (fun on s i => by simp) on s

@[simp] theorem setSilentWarn_dtr (on : Bool) (s : State) : (setSilentWarn on s).dtr =
    { s.dtr with settings := { s.dtr.settings with silentWarn := on } } :=
  setSilentWarn_keeps _ (fun on s i => by simp) on s

@[simp] theorem startDiscipline_dse (s : State) : (startDiscipline s).dse = { s.dse with
    state := .acquire, outstanding := none, held := none, window := [], missRun := 0, lockInRun := 0
    unlockRun := 0, lockCount := 0, lastOffset := none, growthTimer := none
    probeTimer := some s.rcu.uptime } := by
  simp [startDiscipline, invalidateProbe]

@[simp] theorem stopDiscipline_dse (s : State) : (stopDiscipline s).dse = { s.dse with
    state := .idle, outstanding := none, held := none, probeTimer := none, growthTimer := none } := by
  simp [stopDiscipline, invalidateProbe]

@[simp] theorem stopDiscipline_rcu (s : State) : (stopDiscipline s).rcu = (withdrawPhase s.rcu.f s).rcu := by
  simp [stopDiscipline]
  rfl

theorem withdrawPhase_rcu (f : Int) (s : State) : (withdrawPhase f s).rcu = { s.rcu with
    f := clampInt (-Config.rateLimit) Config.rateLimit f
    s := 0
    a := appliedRate (clampInt (-Config.rateLimit) Config.rateLimit f) 0
    k := increment (appliedRate (clampInt (-Config.rateLimit) Config.rateLimit f) 0)
    phaseTimer := none } := rfl

@[simp] theorem softReset_dse (s : State) : (softReset s).dse = { history := s.dse.history } := rfl

@[simp] theorem hardReset_dse (s : State) : (hardReset s).dse = {} := rfl

/-! ### The queue of commands -/

/-- No effect touches the queue of commands. -/
theorem effect_pending {s t : State} (h : Effect true s t) : t.pending = s.pending := by
  cases h with
  | plain core => exact core.pending
  | softReset => rfl
  | hardReset => rfl
  | _ => simp [setServer]

/-- Settles O2. -/
theorem everyCommandCompletes : Obligations.EveryCommandCompletes := by
  intro c s
  obtain ⟨t, hexec, heffects⟩ := exec_runs c s
  exact ⟨t, hexec, heffects.keeps (P := fun u => u.pending = s.pending)
    (fun u v h hu => (effect_pending h).trans hu) rfl⟩

/-! ### Rack time and the rate (R1 to R3) -/

/-- F is in its range, and A and K are those of F and S. -/
def RateFits (r : Rcu) : Prop :=
  -Config.rateLimit ≤ r.f ∧ r.f ≤ Config.rateLimit ∧ r.a = appliedRate r.f r.s ∧ r.k = increment r.a

theorem rateFits_withdrawPhase (f : Int) (s : State) : RateFits (withdrawPhase f s).rcu :=
  ⟨(clampInt_mem _ _ f (by decide)).1, (clampInt_mem _ _ f (by decide)).2, rfl, rfl⟩

theorem rateFits_softReset {r : Rcu} (h : RateFits r) : RateFits r.softReset := ⟨h.1, h.2.1, rfl, rfl⟩

theorem rateFits_reset : RateFits {} := ⟨by decide, by decide, by decide, by decide⟩

/-- Every effect keeps F in its range, and A and K those of F and S. -/
theorem effect_rateConsistent {s t : State} (h : Effect true s t) (hs : RateConsistent s) :
    RateConsistent t := by
  change RateFits t.rcu
  change RateFits s.rcu at hs
  cases h with
  | plain core => rwa [core.rcu]
  | clock r f sterm a k =>
    obtain ⟨hlo, hhi, ha, hk⟩ := hs
    exact ⟨f ▸ hlo, f ▸ hhi, by rw [a, ha, f, sterm], by rw [k, hk, a]⟩
  | rate f g timer fits =>
    rcases fits with ⟨hlo, hhi⟩ | rfl
    · exact ⟨hlo, hhi, rfl, rfl⟩
    · exact ⟨hs.1, hs.2.1, rfl, rfl⟩
  | holdover => simpa using rateFits_withdrawPhase (learnedRate s) s
  | stop => simpa using rateFits_withdrawPhase s.rcu.f s
  | softReset => exact rateFits_softReset hs
  | hardReset => exact rateFits_reset
  | _ => simpa [setServer] using hs

/-- Every effect keeps rack time in its valid range. -/
theorem effect_timeValid {s t : State} (h : Effect true s t) (hs : TimeValid s) (hr : RateConsistent s) :
    TimeValid t := by
  cases h with
  | plain core => rwa [TimeValid, core.rcu]
  | clock r _ _ _ _ valid => exact valid hs hr
  | rate => exact hs
  | holdover => simpa [TimeValid, withdrawPhase_rcu] using hs
  | stop => simpa [TimeValid, withdrawPhase_rcu] using hs
  | softReset => exact hs
  | hardReset => exact (by decide : (0 : BitVec 32).toNat < 1000000000)
  | _ => simpa [TimeValid, setServer] using hs

/-- Settles O18. -/
theorem clockConsistencyKept : Obligations.ClockConsistencyKept :=
  keptBySteps_of_effects (fun _ _ h => h) fun _ _ he hs =>
    ⟨effect_timeValid he hs.1 hs.2, effect_rateConsistent he hs.2⟩

/-! ### The rate of holdover (R43, R44) -/

/-- A sum of values each within a bound lies within as many times the bound. -/
theorem natAbs_sum_le {l : List Int} {b : Nat} (h : ∀ x ∈ l, x.natAbs ≤ b) : l.sum.natAbs ≤ l.length * b := by
  induction l with
  | nil => simp
  | cons x l ih =>
    have hx := h x List.mem_cons_self
    have hl := ih fun y hy => h y (List.mem_cons_of_mem _ hy)
    rw [List.sum_cons, List.length_cons, Nat.succ_mul]
    omega

/-- A quotient of a value within `b` times a bound by `b` lies within the bound. -/
theorem roundDiv_mem {a : Int} {b m : Nat} (hb : 0 < b) (h : a.natAbs ≤ b * m) :
    -(m : Int) ≤ roundDiv a b ∧ roundDiv a b ≤ m := by
  have hq : (2 * a.natAbs + b) / (2 * b) ≤ m := by
    refine Nat.lt_succ_iff.mp (Nat.div_lt_of_lt_mul ?_)
    have : 2 * b * m.succ = 2 * (b * m) + 2 * b := by
      rw [Nat.succ_eq_add_one]
      ring
    omega
  unfold roundDiv
  dsimp only
  generalize (2 * a.natAbs + b) / (2 * b) = q at hq ⊢
  split <;> omega

/-- The learned rate lies in the range of F. -/
theorem learnedRate_mem {s : State} (hr : RateConsistent s) (hh : HistoryInRange s) :
    -Config.rateLimit ≤ learnedRate s ∧ learnedRate s ≤ Config.rateLimit := by
  unfold learnedRate
  split
  · exact ⟨hr.1, hr.2.1⟩
  · next hne =>
    have hsum : s.dse.history.sum.natAbs ≤ s.dse.history.length * 200000000 := by
      refine natAbs_sum_le fun x hx => ?_
      have := hh.2 x hx
      simp only [Config.rateLimit] at this
      omega
    have hmem := roundDiv_mem (List.length_pos_iff.mpr (by simpa using hne)) hsum
    simp only [roundMean, Config.rateLimit]
    omega

/-- Every effect keeps the rate history within the range of F. -/
theorem effect_historyInRange {s t : State} (h : Effect true s t) (hr : RateConsistent s)
    (hs : HistoryInRange s) : HistoryInRange t := by
  cases h with
  | plain core => rwa [HistoryInRange, core.dse]
  | dse d _ history => rwa [HistoryInRange, history]
  | history =>
    refine ⟨by simp, fun f hf => ?_⟩
    rcases List.mem_cons.mp (List.mem_of_mem_take hf) with rfl | hf
    · exact ⟨hr.1, hr.2.1⟩
    · exact hs.2 f hf
  | probe => simpa [HistoryInRange] using hs
  | withdraw => simpa [HistoryInRange, withdrawProbe_dse] using hs
  | softReset => exact hs
  | hardReset => exact ⟨by simp, by simp⟩
  | _ => simpa [HistoryInRange, setServer] using hs

/-- Every effect keeps S at zero and F at the holdover rate where they have to be. -/
theorem effect_holdoverRateKept {s t : State} (h : Effect true s t) (hr : RateConsistent s)
    (hh : HistoryInRange s) (hs : HoldoverRateKept s) : HoldoverRateKept t := by
  cases h with
  | plain core => rwa [HoldoverRateKept, core.dse, core.rcu]
  | clock r f sterm => rwa [HoldoverRateKept, f, sterm]
  | rate f g timer fits still learned =>
    refine ⟨fun hstate => ?_, fun hstate => (learned hstate).trans (hs.2 hstate)⟩
    rcases still hstate with hg | hg
    · exact hg
    · exact hg.trans (hs.1 hstate)
  | dse d state _ holdoverRate => rwa [HoldoverRateKept, state, holdoverRate]
  | holdover =>
    obtain ⟨hlo, hhi⟩ := learnedRate_mem hr hh
    refine ⟨fun _ => by simp [withdrawPhase_rcu], fun _ => ?_⟩
    simp only [beginHoldover_frame, beginHoldover_dse, withdrawPhase_rcu]
    exact clampInt_of_mem _ _ _ hlo hhi
  | freerun holdover =>
    obtain ⟨hsterm, hf⟩ := hs
    exact ⟨fun _ => by simpa using hsterm (.inr (.inl holdover)), fun _ => by simpa using hf (.inl holdover)⟩
  | serve new timer serves =>
    constructor <;> intro hstate <;> rcases serves with rfl | rfl <;> simp at hstate
  | start => constructor <;> intro hstate <;> simp at hstate
  | stop => exact ⟨fun _ => by simp [withdrawPhase_rcu], fun hstate => by simp at hstate⟩
  | withdraw => simpa [HoldoverRateKept, withdrawProbe_dse] using hs
  | softReset => exact ⟨fun _ => rfl, fun hstate => by simp at hstate⟩
  | hardReset => exact ⟨fun _ => rfl, fun hstate => by simp at hstate⟩
  | _ => simpa [HoldoverRateKept, setServer] using hs

/-- Settles O19. -/
theorem holdoverRunsOnLearnedRate : Obligations.HoldoverRunsOnLearnedRate :=
  keptBySteps_of_effects (fun _ _ h => h) fun _ _ he ⟨hr, hh, hs⟩ =>
    ⟨effect_rateConsistent he hr, effect_historyInRange he hr hh, effect_holdoverRateKept he hr hh hs⟩

/-! ### The timers (R25, R45) -/

/-- Every effect keeps the timers of DSE running exactly in their states. -/
theorem effect_disciplineTimers {s t : State} (h : Effect true s t) (hs : DisciplineTimers s) :
    DisciplineTimers t := by
  cases h with
  | plain core => rwa [DisciplineTimers, core.dse]
  | dse d state _ _ probeTimer growthTimer outstanding =>
    obtain ⟨hprobe, hgrowth, hout⟩ := hs
    simp only [DisciplineTimers, state, probeTimer, growthTimer]
    refine ⟨hprobe, hgrowth, fun hidle => Option.not_isSome_iff_eq_none.mp fun hsome => ?_⟩
    rcases outstanding hsome with hold | htimer
    · rw [hout hidle] at hold
      cases hold
    · exact hprobe.mp htimer hidle
  | holdover locked =>
    obtain ⟨hprobe, _, _⟩ := hs
    simp only [DisciplineTimers, beginHoldover_dse]
    exact ⟨by simp [hprobe, locked], by simp, by simp⟩
  | freerun holdover =>
    obtain ⟨hprobe, _, _⟩ := hs
    exact ⟨by simp [hprobe, holdover], by simp, by simp⟩
  | serve new timer serves runs stopped =>
    obtain ⟨hprobe, hgrowth, _⟩ := hs
    have hnone : timer.isSome = false := by
      rcases stopped with rfl | ⟨rfl, hne⟩
      · rfl
      · exact Bool.eq_false_iff.mpr fun h => hne (hgrowth.mp h)
    rcases serves with rfl | rfl
    · exact ⟨by simp [hprobe, runs], by simp [hnone], by simp⟩
    · exact ⟨by simp [hprobe, runs], by simp [hnone], by simp⟩
  | start => exact ⟨by simp, by simp, by simp⟩
  | stop => exact ⟨by simp, by simp, by simp⟩
  | withdraw => simpa [DisciplineTimers, withdrawProbe_dse] using hs
  | softReset => simp [DisciplineTimers]
  | hardReset => simp [DisciplineTimers]
  | _ => simpa [DisciplineTimers, setServer] using hs

/-- Settles O20. -/
theorem disciplineTimersFollowState : Obligations.DisciplineTimersFollowState :=
  keptBySteps_of_effects (fun _ _ h => h) fun _ _ he hs => effect_disciplineTimers he hs

end Sys2Proof.Proofs
end

section
/-! SUPPORT. Properties to which the clock, the discipline and the server table are indifferent, and the
invariants of the ring and of the alert line. -/

namespace Sys2Proof.Proofs

open Sys2Proof Sys2Proof.Machine Sys2Proof.Safety

/-! ### Properties that records and edges keep -/

/-- A property that does not read RCU, DTR, or DSE but for its frame in a queue, and that records and edges
keep. -/
structure Indifferent (P : State → Prop) : Prop where
  clock : ∀ (s : State) (r : Rcu), P s → P { s with rcu := r }
  dse : ∀ (s : State) (d : Dse), d.frame = s.dse.frame → P s → P { s with dse := d }
  dtr : ∀ (s : State) (d : Dtr), P s → P { s with dtr := d }
  offer : ∀ (r : Record) (s : State), P s → P (offer r s)
  edge : ∀ (b : Nat) (e : Edge) (select : EdgeSelect) (s : State), P s → P (giveEdge b e select s)

namespace Indifferent

variable {P : State → Prop} (h : Indifferent P)

include h

theorem giveChange (b : Nat) (before now : Bool) (select : EdgeSelect) (s : State) (hs : P s) :
    P (giveChange b before now select s) := by
  unfold Machine.giveChange
  split
  · exact hs
  · exact h.edge _ _ _ _ hs

theorem offerSome (r : Option Record) (s : State) (hs : P s) : P (offerSome r s) := by
  cases r with
  | none => exact hs
  | some r => exact h.offer r s hs

theorem setDState (new : DState) (s : State) (hs : P s) : P (setDState new s) := by
  unfold Machine.setDState
  dsimp only
  split
  · exact hs
  · refine h.giveChange _ _ _ _ _ (h.offer _ _ (h.dse _ _ ?_ hs))
    rfl

theorem withdrawPhase (f : Int) (s : State) (hs : P s) : P (withdrawPhase f s) := h.clock s _ hs

theorem beginHoldover (s : State) (hs : P s) : P (beginHoldover s) :=
  h.setDState _ _ (h.dse _ _ (by rfl) (h.withdrawPhase _ _ hs))

theorem startDiscipline (s : State) (hs : P s) : P (startDiscipline s) := by
  refine h.dse _ _ ?_ (h.setDState .acquire _ (h.dse _ _ ?_ (h.dse _ _ ?_ hs))) <;> rfl

theorem stopDiscipline (s : State) (hs : P s) : P (stopDiscipline s) := by
  refine h.setDState _ _ (h.withdrawPhase _ _ (h.dse _ _ ?_ (h.dse _ _ ?_ hs))) <;> rfl

theorem recomputeMajority (s : State) (hs : P s) : P (recomputeMajority s) := by
  unfold Machine.recomputeMajority
  dsimp only
  split
  · exact h.dtr _ _ hs
  · exact h.giveChange _ _ _ _ _ (h.offer _ _ (h.dtr _ _ hs))

theorem changeServer (i : Nat) (old new : Server) (mid : Bool) (r : Option Record) (s : State) (hs : P s) :
    P (changeServer i old new mid r s) :=
  h.giveChange _ _ _ _ _ (h.offerSome _ _ (h.giveChange _ _ _ _ _ (h.dtr _ _ hs)))

theorem clearServer (i : Nat) (sv : Server) (cause : ServerCause) (s : State) (hs : P s) :
    P (clearServer i sv cause s) :=
  h.dtr _ _ (h.giveChange _ _ _ _ _ (h.offer _ _ hs))

theorem silentWarnEdge (on : Bool) (s : State) (i : Nat) (hs : P s) : P (silentWarnEdge on s i) := by
  unfold Machine.silentWarnEdge
  split
  · exact hs
  · split
    · exact h.edge _ _ _ _ hs
    · exact hs

theorem setSilentWarn (on : Bool) (s : State) (hs : P s) : P (setSilentWarn on s) := by
  unfold Machine.setSilentWarn
  dsimp only
  split
  · exact h.dtr _ _ hs
  · exact List.foldlRecOn _ _ (h.dtr _ _ hs) fun t ht i _ => h.silentWarnEdge on t i ht

end Indifferent

/-! ### The ring and the report in flight (R158, R167 to R169, R182) -/

/-- The invariant of the ring. -/
def RingOk (s : State) : Prop := RingConsistent s ∧ PressureConsistent s ∧ ReportHeld s

theorem ringOk_of_eq {s t : State} (hrrg : t.rrg = s.rrg) (hrpe : t.rpe.inFlight = s.rpe.inFlight)
    (h : RingOk s) : RingOk t := by
  simpa only [RingOk, RingConsistent, PressureConsistent, ReportHeld, firstSequence, hrrg, hrpe] using h

@[simp] theorem decidePressure_lowMark (s : State) : (decidePressure s).rrg.lowMark = s.rrg.lowMark := rfl

@[simp] theorem decidePressure_highMark (s : State) : (decidePressure s).rrg.highMark = s.rrg.highMark := rfl

/-- Pressure, once decided, agrees with the marks. -/
theorem ringOk_decidePressure {s : State} (hr : RingConsistent s) (hf : ReportHeld s) :
    RingOk (decidePressure s) := by
  refine ⟨hr, ?_, hf⟩
  obtain ⟨_, _, _, _, _, _, _, _, hlow⟩ := hr
  have hp := decidePressure_pressure s
  unfold pressureAfter at hp
  unfold PressureConsistent
  split
  · next hon =>
    rw [hon] at hp
    split at hp <;> have := of_decide_eq_true hp.symm <;> simp only [decidePressure_lowMark, decidePressure_count] <;> omega
  · next hoff =>
    rw [Bool.eq_false_iff.mpr hoff] at hp
    split at hp <;> have := of_decide_eq_false hp.symm <;> simp only [decidePressure_highMark, decidePressure_count] <;> omega

theorem classLimit_le (g : Rrg) (b : RecordBody) : classLimit g b ≤ Config.ringSlots := by
  unfold classLimit
  split
  · exact Nat.sub_le ..
  · exact le_rfl

theorem ringConsistent_write {s : State} {r : Record} (h : RingConsistent s)
    (room : s.rrg.count < classLimit s.rrg r.body) : RingConsistent { s with rrg := s.rrg.write r } := by
  obtain ⟨hheld, _, holdest, hnext, hsettings⟩ := h
  have hlimit := classLimit_le s.rrg r.body
  refine ⟨by simp [Rrg.write, hheld], by simp only [Rrg.write]; omega, holdest, ?_, hsettings⟩
  simp only [Rrg.write, hnext, Config.ringSlots]
  omega

theorem reportHeld_write {s : State} {r : Record} (hr : RingConsistent s) (h : ReportHeld s) :
    ReportHeld { s with rrg := s.rrg.write r } := by
  obtain ⟨hheld, _⟩ := hr
  unfold ReportHeld at h ⊢
  cases hin : s.rpe.inFlight with
  | none => trivial
  | some x =>
    rw [hin] at h
    obtain ⟨hpos, hmax, hcount, hfirst⟩ := h
    refine ⟨hpos, hmax, Nat.le_succ_of_le hcount, ?_⟩
    have hne : s.rrg.held ≠ [] := List.length_pos_iff.mp (by omega)
    obtain ⟨y, l, hl⟩ := List.exists_cons_of_ne_nil hne
    simpa [firstSequence, Rrg.write, hl] using hfirst

theorem ringOk_buildReport {s : State} (can : reportCanBuild s = true) (h : RingOk s) :
    RingOk (buildReport s) := by
  obtain ⟨hr, hp, _⟩ := h
  have hpos : 0 < s.rrg.count := by
    simp only [reportCanBuild, reportIsDue, Bool.and_eq_true, decide_eq_true_iff] at can
    exact can.1.1.1.1
  refine ⟨by simpa [RingConsistent] using hr, by simpa [PressureConsistent] using hp, ?_⟩
  simp only [ReportHeld, buildReport_inFlight, buildReport_frame, reportSize, Config.reportMax]
  exact ⟨by omega, by omega, by omega, by simp [firstSequence]⟩

theorem ringOk_dueCheck {s : State} (h : RingOk s) : RingOk (dueCheck s) := by
  rcases dueCheck_cases s with ⟨_, heq⟩ | ⟨can, heq⟩
  · rwa [heq]
  · rw [heq]
    exact ringOk_buildReport can h

theorem ringOk_offer (r : Record) {s : State} (h : RingOk s) : RingOk (offer r s) := by
  obtain ⟨hr, hp, hf⟩ := h
  rcases offer_cases r s with ⟨hroom, heq⟩ | ⟨_, heq⟩
  · rw [heq]
    exact ringOk_dueCheck (ringOk_decidePressure (ringConsistent_write hr hroom) (reportHeld_write hr hf))
  · rw [heq]
    exact ringOk_of_eq (by simp) (by simp) (show RingOk { s with rrg := s.rrg.lose r.body } from ⟨hr, hp, hf⟩)

theorem ringOk_flushRing {s : State} (idle : s.rpe.inFlight = none) (h : RingOk s) : RingOk (flushRing s) := by
  obtain ⟨⟨_, _, holdest, hnext, hsettings⟩, _, _⟩ := h
  refine ringOk_decidePressure ⟨rfl, Nat.zero_le _, ?_, ?_, hsettings⟩ ?_
  · simp only [hnext, Config.ringSlots]
    omega
  · simp only [hnext, Config.ringSlots]
    omega
  · simp only [ReportHeld, idle]

theorem ringOk_setMarks {s : State} {n high low : Nat} (h : RingOk s)
    (fit : n ≤ 256 ∧ 2 ≤ high ∧ high ≤ Config.ringSlots - n ∧ 1 ≤ low ∧ low < high) :
    RingOk (setMarks n high low s) := by
  obtain ⟨⟨hheld, hcount, holdest, hnext, _⟩, _, hf⟩ := h
  exact ringOk_decidePressure ⟨hheld, hcount, holdest, hnext, fit⟩ hf

theorem inFlightCount_le {s : State} (h : ReportHeld s) : inFlightCount s ≤ s.rrg.count := by
  unfold inFlightCount
  unfold ReportHeld at h
  cases hin : s.rpe.inFlight with
  | none => exact Nat.zero_le _
  | some x =>
    rw [hin] at h
    exact h.2.2.1

theorem ringOk_deliverReport {s : State} (h : RingOk s) : RingOk (deliverReport s) := by
  obtain ⟨⟨hheld, hcount, holdest, hnext, hsettings⟩, _, hf⟩ := h
  have hn := inFlightCount_le hf
  have hremoved : RingConsistent { s with rrg := s.rrg.remove (inFlightCount s) } := by
    refine ⟨by simp [Rrg.remove, hheld], ?_, ?_, ?_, hsettings⟩
    · simp only [Rrg.remove]
      omega
    · exact Nat.mod_lt _ (by decide)
    · simp only [Rrg.remove, hnext, Config.ringSlots]
      omega
  have hcleared := ringOk_decidePressure (s := clearReport { s with rrg := s.rrg.remove (inFlightCount s) })
    hremoved (by simp [ReportHeld, clearReport])
  exact hcleared

theorem ringOk_indifferent : Indifferent RingOk where
  clock _ _ h := h
  dse _ _ _ h := h
  dtr _ _ h := h
  offer r _ h := ringOk_offer r h
  edge _ _ _ _ h := ringOk_of_eq (by simp) (by simp) h

theorem ringOk_reset {s : State} (hrrg : s.rrg = {}) (hrpe : s.rpe.inFlight = none) : RingOk s := by
  refine ringOk_of_eq (s := State.reset) hrrg hrpe ⟨by decide, by decide, trivial⟩

/-- Every effect keeps the ring and the report in flight in agreement. -/
theorem effect_ringOk {s t : State} (he : Effect true s t) (hs : RingOk s) : RingOk t := by
  have h := ringOk_indifferent
  cases he with
  | plain core => exact ringOk_of_eq core.rrg (by rw [core.rpe]) hs
  | holdover => exact h.beginHoldover _ hs
  | freerun => exact h.setDState _ _ hs
  | serve => exact h.setDState _ _ hs
  | start => exact h.startDiscipline _ hs
  | stop => exact h.stopDiscipline _ hs
  | majority => exact h.recomputeMajority _ hs
  | server => exact h.changeServer _ _ _ _ _ _ hs
  | clear => exact h.clearServer _ _ _ _ hs
  | ringCount => exact hs
  | write r room =>
    obtain ⟨hr, _, hf⟩ := hs
    exact ringOk_decidePressure (ringConsistent_write hr room) (reportHeld_write hr hf)
  | flush idle => exact ringOk_flushRing idle hs
  | marks n high low fit => exact ringOk_setMarks hs (fit hs.1)
  | rpe r inFlight =>
    obtain ⟨hr, hp, hf⟩ := hs
    refine ⟨hr, hp, ?_⟩
    rcases inFlight with hin | ⟨_, hin | hin⟩
    · simpa [ReportHeld, hin, firstSequence] using hf
    · simp [ReportHeld, hin]
    · unfold ReportHeld at hf ⊢
      cases hold : s.rpe.inFlight <;> simp_all [firstSequence]
  | report can => exact ringOk_buildReport can hs
  | deliver => exact ringOk_deliverReport hs
  | softReset => exact ringOk_reset rfl rfl
  | hardReset => exact ringOk_reset rfl rfl
  | _ => exact ringOk_of_eq (by simp) (by simp) hs

/-- Settles O21. -/
theorem ringStaysConsistent : Obligations.RingStaysConsistent :=
  keptBySteps_of_effects (fun _ _ h => h) fun _ _ he hs => effect_ringOk he hs

/-! ### The alert line (R122) -/

theorem alertLineDriven_latch (b : Nat) {s : State} (h : AlertLineDriven s) : AlertLineDriven (latch b s) := by
  rcases latch_cases b s with ⟨_, heq⟩ | ⟨_, heq⟩
  · rwa [heq]
  · rw [heq]

theorem alertLineDriven_giveEdge (b : Nat) (e : Edge) (select : EdgeSelect) {s : State}
    (h : AlertLineDriven s) : AlertLineDriven (giveEdge b e select s) := by
  unfold giveEdge
  dsimp only
  split
  · exact alertLineDriven_latch _ (by exact h)
  · exact h

theorem alertLineDriven_of_eq {s t : State} (h : t.wru = s.wru) (hs : AlertLineDriven s) :
    AlertLineDriven t := by
  rwa [AlertLineDriven, h]

theorem alertLineDriven_offer (r : Record) {s : State} (h : AlertLineDriven s) :
    AlertLineDriven (offer r s) := by
  rcases offer_cases r s with ⟨_, heq⟩ | ⟨_, heq⟩
  · exact alertLineDriven_of_eq (by simp [heq]) h
  · rw [heq]
    exact alertLineDriven_latch _ h

/-- Building an alert leaves the picture of the warnings. -/
theorem buildAlert_wru (s : State) : (buildAlert s).wru.pending = s.wru.pending ∧
    (buildAlert s).wru.lineMask = s.wru.lineMask ∧ (buildAlert s).wru.alertLine = s.wru.alertLine ∧
    (buildAlert s).wru.condition = s.wru.condition ∧ (buildAlert s).wru.testDue = s.wru.testDue := by
  unfold buildAlert
  dsimp only
  split <;> simp

theorem alertLineDriven_buildAlert {s : State} (h : AlertLineDriven s) : AlertLineDriven (buildAlert s) := by
  obtain ⟨hpending, hmask, hline, _⟩ := buildAlert_wru s
  rwa [AlertLineDriven, hpending, hmask, hline]

theorem alertLineDriven_indifferent : Indifferent AlertLineDriven where
  clock _ _ h := h
  dse _ _ _ h := h
  dtr _ _ h := h
  offer r _ h := alertLineDriven_offer r h
  edge b e select _ h := alertLineDriven_giveEdge b e select h

/-- Every effect keeps the alert line equal to the masked pending set. -/
theorem effect_alertLineDriven {s t : State} (he : Effect true s t) (hs : AlertLineDriven s) :
    AlertLineDriven t := by
  have h := alertLineDriven_indifferent
  cases he with
  | plain core => exact alertLineDriven_of_eq core.wru hs
  | holdover => exact h.beginHoldover _ hs
  | freerun => exact h.setDState _ _ hs
  | serve => exact h.setDState _ _ hs
  | start => exact h.startDiscipline _ hs
  | stop => exact h.stopDiscipline _ hs
  | majority => exact h.recomputeMajority _ hs
  | server => exact h.changeServer _ _ _ _ _ _ hs
  | clear => exact h.clearServer _ _ _ _ hs
  | silentWarn => exact h.setSilentWarn _ _ hs
  | wru w _ line =>
    rcases line with hline | ⟨hline, hpending, hmask⟩
    · exact hline
    · rwa [AlertLineDriven, hline, hpending, hmask]
  | alert => exact alertLineDriven_buildAlert hs
  | softReset => exact (by decide : false = lineAsserted 0 0)
  | hardReset => exact (by decide : false = lineAsserted 0 0)
  | _ => exact alertLineDriven_of_eq (by simp) hs

/-- A finished effect leaves no test owed. -/
theorem finish_testDue (s : State) : (finish s).wru.testDue = false := by
  rcases finish_cases s with ⟨h, heq⟩ | ⟨_, heq⟩
  · rw [heq, h]
  · rw [heq]
    rcases alertTest_cases { s with wru := { s.wru with testDue := false } } with ⟨_, htest⟩ | ⟨_, htest⟩
    · rw [htest]
    · rw [htest, (buildAlert_wru _).2.2.2.2]

theorem alertTest_testDue (s : State) : (alertTest s).wru.testDue = s.wru.testDue := by
  rcases alertTest_cases s with ⟨_, h⟩ | ⟨_, h⟩
  · rw [h]
  · rw [h, (buildAlert_wru s).2.2.2.2]

theorem startAlert_testDue (p : Port) (s : State) : (startAlert p s).wru.testDue = s.wru.testDue := by
  unfold startAlert
  split
  · rfl
  split
  · rfl
  split
  · rfl
  split <;> rfl

theorem takeBoundary_testDue (p : Port) (s : State) : (takeBoundary p s).wru.testDue = s.wru.testDue := by
  unfold takeBoundary
  split
  · rfl
  · simp
  · next src _ =>
    cases src with
    | alert => exact startAlert_testDue p s
    | _ => simp [startEntry]

theorem raiseLink_testDue (p : Port) (s : State) : (raiseLink p s).wru.testDue = s.wru.testDue := by
  unfold raiseLink
  dsimp only
  split
  · simp [alertTest_testDue]
  · rfl

theorem transitWalk_wru (p : Port) (a : Arriving) (s : State) : (transitWalk p a s).wru = s.wru := by
  unfold transitWalk
  dsimp only
  split
  · rfl
  · split
    · simp
    · simp

theorem plainEnd_wru (p : Port) (fl : Flow) (s : State) :
    (endsGood p fl endsPlain (fun a s => countDropped p (endClass a) s) s).wru = s.wru := by
  unfold endsGood
  dsimp only
  split
  · simp
  · split
    · unfold countDropped
      split <;> simp
    · simp

theorem judgeBoot_wru (reply : BootReply) (s : State) : (judgeBoot reply s).wru = s.wru := by
  unfold judgeBoot
  split
  · rfl
  · split <;> rfl

theorem testDue_of_ite {b : Prop} [Decidable b] {t u v : State}
    (h : (if b then .next t else .next u : Host.Outcome State Fault Refusal) = .next v)
    (ht : b → t.wru.testDue = false) (hu : ¬ b → u.wru.testDue = false) : v.wru.testDue = false := by
  by_cases hb : b
  · rw [if_pos hb] at h
    cases h
    exact ht hb
  · rw [if_neg hb] at h
    cases h
    exact hu hb

/-- The commands whose effect ends with the alert build test it called for. -/
theorem testDue_of_finish {u t : State} (h : (.next (finish u) : Host.Outcome State Fault Refusal) = .next t) :
    t.wru.testDue = false := by
  cases h
  exact finish_testDue u

theorem gtpTransitWalk_wru {p : Port} {fl : Flow} {s t : State}
    (h : exec (.gtpTransitWalk p fl) s = .next t) : t.wru = s.wru := by
  simp only [exec, execGtpTransitWalk] at h
  split at h
  · cases h
    simp
  · cases h
    split
    · simp [transitWalk_wru]
    · simp

theorem oscillatorTick_wru {s t : State} (h : exec .oscillatorTick s = .next t) : t.wru = s.wru := by
  simp only [exec, execOscillatorTick] at h
  split at h
  · cases h
    rfl
  · cases h
    split
    · simp
    · simp

/-- No command leaves an alert build test owed: it ends with the test, or calls for none. -/
theorem exec_testDue {c : Instr} {s t : State} (h : exec c s = .next t) (hs : s.wru.testDue = false) :
    t.wru.testDue = false := by
  have hflow (fl : Flow) : (applyFlow fl s).wru.testDue = false := by simpa using hs
  cases c with
  | hardReset =>
    cases h
    rfl
  | bootReadEnd reply => exact testDue_of_ite h (fun _ => by rwa [judgeBoot_wru]) (fun _ => hs)
  | bootReadTimeout => exact testDue_of_ite h (fun _ => by rwa [judgeBoot_wru]) (fun _ => hs)
  | oscillatorTick => rwa [oscillatorTick_wru h]
  | pulseWidthExpiry => exact testDue_of_ite h (fun _ => hs) (fun _ => hs)
  | phaseTimerExpiry => exact testDue_of_ite h (fun _ => hs) (fun _ => hs)
  | frameStart p flow first =>
    refine testDue_of_ite h (fun _ => ?_) (fun _ => hflow flow)
    split
    · simpa using hs
    · simpa using hs
  | forPartDecision p flow =>
    cases h
    exact hflow flow
  | gtpTransitWalk p flow => rwa [gtpTransitWalk_wru h]
  | passThroughReady p flow =>
    cases h
    exact hflow flow
  | frameEnd p flow =>
    cases h
    rwa [plainEnd_wru]
  | frameBadEnd p flow =>
    cases h
    simpa using hs
  | queryEnd => exact testDue_of_finish h
  | echoEnd => exact testDue_of_finish h
  | probeTimerExpiry => exact testDue_of_ite h (fun _ => finish_testDue _) (fun _ => hs)
  | growthTimerExpiry => exact testDue_of_ite h (fun _ => finish_testDue _) (fun _ => hs)
  | storageCommandEnd => exact testDue_of_finish h
  | storageCompletionEnd => exact testDue_of_finish h
  | exchangeDeadline => exact testDue_of_ite h (fun _ => finish_testDue _) (fun _ => hs)
  | reportTimerExpiry => exact testDue_of_ite h (fun _ => by simpa [reportExpiry] using hs) (fun _ => hs)
  | holdOffExpiry =>
    cases h
    rwa [alertTest_testDue]
  | serverSilence => exact testDue_of_finish h
  | serverEviction => exact testDue_of_finish h
  | frameBoundary p flow =>
    exact testDue_of_ite h (fun _ => by rw [takeBoundary_testDue]; exact hflow flow) (fun _ => hflow flow)
  | egressEnd => exact testDue_of_finish h
  | linkLoss p flow => exact testDue_of_ite h (fun _ => finish_testDue _) (fun _ => hflow flow)
  | linkUp p => exact testDue_of_ite h (fun _ => hs) (fun _ => by rwa [raiseLink_testDue])
  | mgmtReqEnd => exact testDue_of_finish h
  | resetInputRelease => exact testDue_of_ite h (fun _ => hs) (fun _ => hs)

/-- Settles O22. -/
theorem alertLineFollowsPending : Obligations.AlertLineFollowsPending := by
  intro s t ⟨hline, htest⟩ hstep
  rcases step_effects hstep with rfl | ⟨c, rest, _, hexec, heffects⟩
  · exact ⟨hline, htest⟩
  · exact ⟨heffects.keeps (fun _ _ => effect_alertLineDriven) hline, exec_testDue hexec htest⟩

end Sys2Proof.Proofs
end

section
/-! SUPPORT. The invariants of the condition set and of the keys: the table sizes, the conditions, and the
addresses and exchange keys held once. -/

namespace Sys2Proof.Proofs

open Sys2Proof Sys2Proof.Machine Sys2Proof.Safety

/-! ### The sizes of the tables -/

theorem picture_length (l : List (Option Server)) : (picture l).length = l.length := List.length_map ..

theorem recomputeMajority_dtr (s : State) : (recomputeMajority s).dtr = { s.dtr with
    majority := majorityHolds s.dtr.settings.majorityFloor (evaluatedCount s.dtr.servers)
      (plusCount s.dtr.servers) (minusCount s.dtr.servers)
    evaluated := evaluatedCount s.dtr.servers
    plus := plusCount s.dtr.servers
    minus := minusCount s.dtr.servers } := by
  unfold recomputeMajority
  dsimp only
  split <;> simp

theorem tableSizes_reset : TableSizes State.reset :=
  ⟨List.length_replicate, List.length_replicate, List.length_replicate, List.length_replicate,
    List.length_replicate, List.length_replicate⟩

/-- Every effect keeps the sizes of the tables. -/
theorem effect_tableSizes {s t : State} (he : Effect true s t) (hs : TableSizes s) : TableSizes t := by
  cases he with
  | plain core =>
    rwa [TableSizes, core.filters, core.masks, core.slots, core.dtr, core.dte]
  | dtr d servers =>
    have hlength := congrArg List.length servers
    rw [picture_length, picture_length] at hlength
    rwa [TableSizes, hlength]
  | dte d profiles exchanges => rwa [TableSizes, profiles, exchanges]
  | clear => simpa [TableSizes, clearServer_dtr] using hs
  | majority => simpa [TableSizes, recomputeMajority_dtr] using hs
  | softReset => exact tableSizes_reset
  | hardReset => exact tableSizes_reset
  | _ => simpa [TableSizes] using hs

/-! ### The conditions (R111, R119) -/

/-- The warning condition of an entry of the picture of the server table. -/
def pictureWarns (silentWarn : Bool) : Option (Address × SState) → Bool
  | none => false
  | some x => warns silentWarn x.2

theorem entryWarns_eq (on : Bool) (l : List (Option Server)) (i : Nat) :
    entryWarns on (l.getD i none) = pictureWarns on ((picture l).getD i none) := by
  simp only [picture, List.getD_eq_getElem?_getD, List.getElem?_map]
  cases l[i]? with
  | none => rfl
  | some e => cases e <;> rfl

/-- Whoever leaves the condition set, the server states, silent-warn, the discipline state and the majority
leaves the conditions in agreement. -/
theorem conditionsAgree_of_eq {s t : State} (condition : t.wru.condition = s.wru.condition)
    (silentWarn : t.dtr.settings.silentWarn = s.dtr.settings.silentWarn)
    (servers : picture t.dtr.servers = picture s.dtr.servers) (state : t.dse.state = s.dse.state)
    (majority : t.dtr.majority = s.dtr.majority) (h : ConditionsAgree s) : ConditionsAgree t := by
  simp only [ConditionsAgree, entryWarns_eq] at h ⊢
  rwa [condition, silentWarn, servers, state, majority]

theorem conditionsAgree_setDState (new : DState) {s : State} (h : ConditionsAgree s) :
    ConditionsAgree (setDState new s) := by
  by_cases hsame : s.dse.state = new
  · rwa [show setDState new s = s by simp [setDState, hsame]]
  · obtain ⟨hentries, hunlocked, hmajority⟩ := h
    have hcond (i : Nat) : (setDState new s).wru.condition.getLsbD i =
        if i = 48 then new.unlocked else s.wru.condition.getLsbD i := by
      simp only [setDState, hsame, if_false]
      rw [giveChange_condition 48 i _ _ _ _ (by decide) (by simpa using hunlocked)]
      simp
    refine ⟨fun i => ?_, ?_, ?_⟩
    · rw [hcond, if_neg (by omega)]
      simpa using hentries i
    · rw [hcond]
      simp
    · rw [hcond]
      simpa using hmajority

/-- The conditions agree where the bit of entry `i` alone has followed the entry. -/
theorem conditionsAgree_of_entry {s t : State} {i : Nat} {e : Option Server} (hi : i < 48)
    (hlen : i < s.dtr.servers.length) (h : ConditionsAgree s)
    (dtr : t.dtr = { s.dtr with servers := s.dtr.servers.set i e }) (dse : t.dse = s.dse)
    (hcond : ∀ j, t.wru.condition.getLsbD j =
      if j = i then entryWarns s.dtr.settings.silentWarn e else s.wru.condition.getLsbD j) :
    ConditionsAgree t := by
  obtain ⟨hentries, hunlocked, hmajority⟩ := h
  refine ⟨fun j => ?_, ?_, ?_⟩
  · rw [hcond, dtr]
    by_cases hj : j.val = i
    · simp [hj, hlen]
    · rw [if_neg hj, hentries j]
      simp [List.getD_eq_getElem?_getD, Ne.symm hj]
  · rw [hcond, if_neg (by omega), hunlocked, dse]
  · rw [hcond, if_neg (by omega), hmajority, dtr]

/-- The bit of an entry that is not EMPTY is the condition of its state. -/
theorem condition_of_serverAt {s : State} {i : Nat} {sv : Server} (hi : i < 48) (h : ConditionsAgree s)
    (hsv : serverAt i s = some sv) :
    s.wru.condition.getLsbD i = warns s.dtr.settings.silentWarn sv.state := by
  have := h.1 ⟨i, hi⟩
  rw [this, List.getD_eq_getElem?_getD, serverAt_eq_some_iff.mp hsv]
  rfl

theorem lt_of_serverAt {s : State} {i : Nat} {sv : Server} (hsv : serverAt i s = some sv) :
    i < s.dtr.servers.length := (List.getElem?_eq_some_iff.mp (serverAt_eq_some_iff.mp hsv)).1

@[simp] theorem offerSome_condition (r : Option Record) (s : State) :
    (offerSome r s).wru.condition = s.wru.condition := by
  cases r <;> simp [offerSome]

theorem changeServer_condition {i : Nat} {old : Server} {s : State} (hi : i < 48)
    (h : s.wru.condition.getLsbD i = warns s.dtr.settings.silentWarn old.state) (new : Server) (mid : Bool)
    (r : Option Record) (j : Nat) : (changeServer i old new mid r s).wru.condition.getLsbD j =
      if j = i then warns s.dtr.settings.silentWarn new.state else s.wru.condition.getLsbD j := by
  have hfirst (k : Nat) := giveChange_condition i k (warns s.dtr.settings.silentWarn old.state) mid old.select
    (setServer i (some new) s) (by omega) h
  unfold changeServer
  dsimp only
  rw [giveChange_condition i j _ _ _ _ (by omega) (by simp [hfirst])]
  by_cases hj : j = i
  · simp [hj]
  · simp [hj, hfirst]

theorem clearServer_condition {i : Nat} {sv : Server} {s : State} (hi : i < 48)
    (h : s.wru.condition.getLsbD i = warns s.dtr.settings.silentWarn sv.state) (cause : ServerCause) (j : Nat) :
    (clearServer i sv cause s).wru.condition.getLsbD j =
      if j = i then false else s.wru.condition.getLsbD j := by
  unfold clearServer
  dsimp only
  rw [setServer_wru, giveChange_condition i j _ _ _ _ (by omega) (by simpa using h)]
  simp

theorem conditionsAgree_recomputeMajority {s : State} (h : ConditionsAgree s) :
    ConditionsAgree (recomputeMajority s) := by
  obtain ⟨hentries, hunlocked, hmajority⟩ := h
  have hdtr := recomputeMajority_dtr s
  have hcond (i : Nat) : (recomputeMajority s).wru.condition.getLsbD i =
      if i = 49 then (recomputeMajority s).dtr.majority else s.wru.condition.getLsbD i := by
    rw [hdtr]
    unfold recomputeMajority
    dsimp only
    split
    · next hsame =>
      by_cases hi : i = 49
      · rw [if_pos hi, hi, hsame]
        exact hmajority
      · rw [if_neg hi]
    · rw [giveChange_condition 49 i _ _ _ _ (by decide) (by simpa using hmajority)]
      simp
  refine ⟨fun i => ?_, ?_, ?_⟩
  · rw [hcond, if_neg (by omega), hdtr]
    exact hentries i
  · rw [hcond, if_neg (by omega)]
    simpa using hunlocked
  · rw [hcond, if_pos rfl]

/-- The bit of an entry after an edge of silent-warn: that of a SILENT entry follows the setting. -/
theorem silentWarnEdge_condition (on : Bool) (s : State) {i : Nat} (hi : i < 48) (j : Nat) :
    (silentWarnEdge on s i).wru.condition.getLsbD j =
      if j = i ∧ (serverAt i s).any (fun sv => sv.state == .silent) then on
      else s.wru.condition.getLsbD j := by
  unfold silentWarnEdge
  split
  · next h => simp [h]
  · next sv h =>
    split
    · next hsilent =>
      rw [giveEdge_condition, getLsbD_putBit _ _ _ _ (by omega), h]
      cases on <;> by_cases hj : j = i <;> simp [hj, hsilent]
    · next hother => simp [h, hother]

theorem silentWarnEdges_condition (on : Bool) (l : List Nat) (hl : ∀ i ∈ l, i < 48) (s : State) (j : Nat) :
    (l.foldl (silentWarnEdge on) s).wru.condition.getLsbD j =
      if j ∈ l ∧ (serverAt j s).any (fun sv => sv.state == .silent) then on
      else s.wru.condition.getLsbD j := by
  induction l generalizing s with
  | nil => simp
  | cons i l ih =>
    have hserver : serverAt j (silentWarnEdge on s i) = serverAt j s := by simp [serverAt]
    rw [List.foldl_cons, ih (fun k hk => hl k (List.mem_cons_of_mem _ hk)), hserver,
      silentWarnEdge_condition on s (hl i List.mem_cons_self)]
    by_cases hj : j = i
    · subst hj
      by_cases hsilent : (serverAt j s).any (fun sv => sv.state == .silent) = true <;> simp [hsilent]
    · simp [hj]

theorem warns_silent_only {a b : Bool} {st : SState} (h : st ≠ .silent) : warns a st = warns b st := by
  cases st <;> first | rfl | exact absurd rfl h

theorem conditionsAgree_setSilentWarn (on : Bool) {s : State} (h : ConditionsAgree s) :
    ConditionsAgree (setSilentWarn on s) := by
  obtain ⟨hentries, hunlocked, hmajority⟩ := h
  by_cases hsame : s.dtr.settings.silentWarn = on
  · have heq : setSilentWarn on s = s := by
      unfold setSilentWarn
      simp only [hsame, if_true]
      simp [changeDrift, ← hsame]
    rw [heq]
    exact ⟨hentries, hunlocked, hmajority⟩
  · have hcond (j : Nat) : (setSilentWarn on s).wru.condition.getLsbD j =
        if j < 48 ∧ (serverAt j s).any (fun sv => sv.state == .silent) then on
        else s.wru.condition.getLsbD j := by
      unfold setSilentWarn
      simp only [hsame, if_false]
      rw [silentWarnEdges_condition on serverIndices (fun i hi => List.mem_range.mp hi)]
      exact if_congr (by simp [serverIndices, serverAt, changeDrift]) rfl rfl
    refine ⟨fun i => ?_, ?_, ?_⟩
    · rw [hcond, hentries i, setSilentWarn_dtr, List.getD_eq_getElem?_getD]
      simp only [serverAt, Fin.is_lt, true_and]
      cases s.dtr.servers[i.val]? with
      | none => rfl
      | some e =>
        cases e with
        | none => rfl
        | some sv =>
          by_cases hsilent : sv.state = .silent
          · simp [entryWarns, hsilent, warns]
          · simp [entryWarns, hsilent, warns_silent_only (a := s.dtr.settings.silentWarn) (b := on) hsilent]
    · rw [hcond, if_neg (by omega), hunlocked]
      simp
    · rw [hcond, if_neg (by omega), hmajority]
      simp

/-- Every effect keeps the condition set equal to the conditions. -/
theorem effect_conditionsAgree {s t : State} (he : Effect true s t) (hsize : TableSizes s)
    (hs : ConditionsAgree s) : ConditionsAgree t := by
  obtain ⟨_, _, _, hlength, _⟩ := hsize
  have same {u v : State} (hu : ConditionsAgree u) (wru : v.wru = u.wru) (dtr : v.dtr = u.dtr)
      (state : v.dse.state = u.dse.state) : ConditionsAgree v :=
    conditionsAgree_of_eq (by rw [wru]) (by rw [dtr]) (by rw [dtr]) state (by rw [dtr]) hu
  cases he with
  | plain core => exact same hs core.wru core.dtr (by rw [core.dse])
  | dse d state => exact same hs rfl rfl state
  | holdover => exact conditionsAgree_setDState _ hs
  | freerun => exact conditionsAgree_setDState _ hs
  | serve => exact conditionsAgree_setDState _ hs
  | start => exact conditionsAgree_setDState .acquire hs
  | stop => exact conditionsAgree_setDState .idle hs
  | dtr d servers silentWarn majority => exact conditionsAgree_of_eq (by rfl) silentWarn servers rfl majority hs
  | majority => exact conditionsAgree_recomputeMajority hs
  | newServer i sv empty probation =>
    by_cases hi : i < 48
    · refine conditionsAgree_of_entry hi (by omega) hs rfl rfl fun j => ?_
      by_cases hj : j = i
      · have hentry := hs.1 ⟨i, hi⟩
        have hnone : s.dtr.servers.getD i none = none := by
          have hlt : i < s.dtr.servers.length := by omega
          simpa [serverAt, hlt] using empty
        rw [if_pos hj, hj, setServer_wru, hentry, hnone]
        simp only [entryWarns, probation, warns]
      · simp [hj]
    · have hsame : setServer i (some sv) s = s := by
        simp [setServer, List.set_eq_of_length_le (show s.dtr.servers.length ≤ i by omega)]
      rwa [hsame]
  | server i old new mid r held =>
    have hi : i < 48 := hlength ▸ lt_of_serverAt held
    exact conditionsAgree_of_entry hi (lt_of_serverAt held) hs (changeServer_dtr ..) (changeServer_frame ..).2.1
      (changeServer_condition hi (condition_of_serverAt hi hs held) new mid r)
  | clear i sv cause held =>
    have hi : i < 48 := hlength ▸ lt_of_serverAt held
    exact conditionsAgree_of_entry hi (lt_of_serverAt held) hs (clearServer_dtr ..) (by simp)
      (clearServer_condition hi (condition_of_serverAt hi hs held) cause)
  | silentWarn on => exact conditionsAgree_setSilentWarn on hs
  | wru w condition => exact conditionsAgree_of_eq condition rfl rfl rfl rfl hs
  | alert =>
    exact conditionsAgree_of_eq (buildAlert_wru s).2.2.2.1 (by simp) (by simp) (by simp) (by simp) hs
  | probe => exact same hs rfl rfl rfl
  | withdraw => exact same hs (by simp) (by simp) (by rw [withdrawProbe_dse])
  | softReset => exact conditionsAgree_of_eq (s := State.reset) rfl rfl rfl rfl rfl reset_conditionsAgree
  | hardReset => exact conditionsAgree_of_eq (s := State.reset) rfl rfl rfl rfl rfl reset_conditionsAgree
  | _ => exact same hs (by simp) (by simp) (by simp)

/-- Settles O23. -/
theorem conditionSetAgrees : Obligations.ConditionSetAgrees :=
  keptBySteps_of_effects (fun _ _ h => h) fun _ _ he ⟨hsize, hs⟩ =>
    ⟨effect_tableSizes he hsize, effect_conditionsAgree he hsize hs⟩

/-! ### Addresses and keys held once (R92, R135) -/

theorem nodup_of_eq_nil {α : Type} {l : List α} (h : l = []) : l.Nodup := h ▸ List.nodup_nil

/-- The addresses of a server table, read of its picture. -/
theorem serverAddresses_eq (s : State) :
    serverAddresses s = (picture s.dtr.servers).filterMap fun e => e.map Prod.fst := by
  simp only [serverAddresses, picture, List.filterMap_map]
  refine List.filterMap_congr fun e _ => ?_
  cases e <;> rfl

theorem serversDistinct_of_dtr {s t : State} (h : picture t.dtr.servers = picture s.dtr.servers)
    (hs : ServersDistinct s) : ServersDistinct t := by
  rwa [ServersDistinct, serverAddresses_eq, h, ← serverAddresses_eq]

/-- A table in which one entry changes keeps its addresses distinct if the new one is held by no other. -/
theorem serversDistinct_set {s t : State} {i : Nat} {e : Option Server} (hs : ServersDistinct s)
    (dtr : t.dtr = { s.dtr with servers := s.dtr.servers.set i e })
    (h : ∀ sv, e = some sv → ∀ (j : Nat) (hj : j < s.dtr.servers.length), j ≠ i →
      holdsAddress sv.address s.dtr.servers[j] = false) : ServersDistinct t := by
  rw [ServersDistinct, serverAddresses, dtr]
  refine nodup_filterMap_set _ hs fun a ha j hj hne heq => ?_
  obtain ⟨sv, rfl, rfl⟩ := Option.map_eq_some_iff.mp ha
  obtain ⟨old, hold, haddr⟩ := Option.map_eq_some_iff.mp heq
  have hfalse := h sv rfl j hj hne
  simp [hold, holdsAddress, haddr] at hfalse

/-- In a table without repeated addresses, no other entry holds the address of an entry. -/
theorem holdsAddress_unique {s : State} (hs : ServersDistinct s) {i : Nat} {sv : Server}
    (hsv : serverAt i s = some sv) {j : Nat} (hj : j < s.dtr.servers.length) (hne : j ≠ i) :
    holdsAddress sv.address s.dtr.servers[j] = false := by
  obtain ⟨hi, hsvi⟩ := List.getElem?_eq_some_iff.mp (serverAt_eq_some_iff.mp hsv)
  cases hother : s.dtr.servers[j] with
  | none => rfl
  | some other =>
    refine beq_eq_false_iff_ne.mpr fun haddr => ?_
    have hpair := List.pairwise_filterMap.mp hs
    rcases Nat.lt_or_gt_of_ne hne with hlt | hlt
    · exact List.pairwise_iff_getElem.mp hpair j i hj hi hlt other.address (by simp [hother]) sv.address
        (by simp [hsvi]) haddr
    · exact List.pairwise_iff_getElem.mp hpair i j hi hj hlt sv.address (by simp [hsvi]) other.address
        (by simp [hother]) haddr.symm

/-- Every effect keeps the server addresses distinct. -/
theorem effect_serversDistinct {s t : State} (he : Effect true s t) (hs : ServersDistinct s) :
    ServersDistinct t := by
  cases he with
  | plain core => exact serversDistinct_of_dtr (by rw [core.dtr]) hs
  | dtr d servers => exact serversDistinct_of_dtr servers hs
  | majority => exact serversDistinct_of_dtr (by rw [recomputeMajority_dtr]) hs
  | newServer i sv _ _ unheld =>
    refine serversDistinct_set (i := i) (e := some sv) hs rfl fun sv' h j hj _ => ?_
    cases h
    exact findServer_eq_none_iff.mp unheld _ (List.getElem_mem hj)
  | server i old new mid r held address =>
    refine serversDistinct_set hs (changeServer_dtr ..) fun sv' h j hj hne => ?_
    cases h
    rw [address]
    exact holdsAddress_unique hs held hj hne
  | clear i sv cause held =>
    exact serversDistinct_set hs (clearServer_dtr ..) fun sv' h => by cases h
  | silentWarn => exact serversDistinct_of_dtr (by simp) hs
  | softReset => exact nodup_of_eq_nil (filterMap_replicate_none 48 Server.address)
  | hardReset => exact nodup_of_eq_nil (filterMap_replicate_none 48 Server.address)
  | _ => exact serversDistinct_of_dtr (by simp) hs

/-- Every effect keeps the exchange keys distinct. -/
theorem effect_exchangesDistinct {s t : State} (he : Effect true s t) (hs : ExchangesDistinct s) :
    ExchangesDistinct t := by
  have same {u : State} (dte : u.dte = s.dte) : ExchangesDistinct u := by
    rwa [ExchangesDistinct, exchangeKeys, dte]
  cases he with
  | plain core => exact same core.dte
  | dte d _ _ distinct => exact distinct hs
  | softReset => exact nodup_of_eq_nil (filterMap_replicate_none 256 Exchange.key)
  | hardReset => exact nodup_of_eq_nil (filterMap_replicate_none 256 Exchange.key)
  | _ => exact same (by simp)

/-- Settles O24. -/
theorem keysStayDistinct : Obligations.KeysStayDistinct :=
  keptBySteps_of_effects (fun _ _ h => h) fun _ _ he ⟨hservers, hexchanges⟩ =>
    ⟨effect_serversDistinct he hservers, effect_exchangesDistinct he hexchanges⟩

end Sys2Proof.Proofs
end

section
/-! SUPPORT. The ends of a frame, what commands leave of the server table, and the settled statement of the
held evaluation. -/

namespace Sys2Proof.Proofs

open Sys2Proof Sys2Proof.Machine Sys2Proof.Safety

/-! ### The end of a frame -/

/-- A frame that ends good as one of the frames a command is for has its effect. -/
theorem endsGood_eq {c : EndClass} {p : Port} {flow : Flow} {a : Arriving} {s : State} {isFor : EndClass → Bool}
    (h : EndsGoodAs c p flow a s) (hfor : isFor c = true) (k : Arriving → State → State) :
    endsGood p flow isFor k s = k a (ended p flow a s) := by
  obtain ⟨harriving, hgood, hclass⟩ := h
  simp [endsGood, harriving, hgood, hclass, hfor, ended]

/-- A frame ends with its effect, or the command brings octets alone. -/
theorem endsGood_cases (p : Port) (fl : Flow) (isFor : EndClass → Bool) (k : Arriving → State → State)
    (s : State) : endsGood p fl isFor k s = applyFlow fl s ∨
      ∃ a, (applyFlow fl s).arriving p = some a ∧ canEndGood a = true ∧ isFor (endClass a) = true ∧
        endsGood p fl isFor k s = k a (ended p fl a s) := by
  unfold endsGood
  dsimp only
  split
  · exact .inl rfl
  · next a ha =>
    split
    · next h =>
      rw [Bool.and_eq_true] at h
      exact .inr ⟨a, ha, h.1, h.2, rfl⟩
    · exact .inl rfl

/-- The end of a frame touches the frame path and the ports alone. -/
@[simp] theorem ended_frame (p : Port) (fl : Flow) (a : Arriving) (s : State) :
    (ended p fl a s).rcu = s.rcu ∧ (ended p fl a s).dse = s.dse ∧ (ended p fl a s).anu = s.anu ∧
      (ended p fl a s).dtr = s.dtr ∧ (ended p fl a s).wru = s.wru ∧ (ended p fl a s).dte = s.dte ∧
      (ended p fl a s).rrg = s.rrg ∧ (ended p fl a s).rpe = s.rpe ∧ (ended p fl a s).mgu = s.mgu ∧
      (ended p fl a s).resetHeld = s.resetHeld ∧ (ended p fl a s).serial = s.serial ∧
      (ended p fl a s).pending = s.pending := by
  simp [ended]

/-- What the octets, the end of a frame and its effect leave, the command leaves. -/
theorem endsGood_keeps {β : Type} (g : State → β) {p : Port} {fl : Flow} {isFor : EndClass → Bool}
    {k : Arriving → State → State} {s : State} (hflow : g (applyFlow fl s) = g s)
    (hended : ∀ a, g (ended p fl a s) = g s) (hk : ∀ a t, g (k a t) = g t) :
    g (endsGood p fl isFor k s) = g s := by
  rcases endsGood_cases p fl isFor k s with h | ⟨a, _, _, _, h⟩
  · rw [h, hflow]
  · rw [h, hk, hended]

/-! ### Commands that leave DTR -/

theorem endsGood_dtr {p : Port} {fl : Flow} {isFor : EndClass → Bool} {k : Arriving → State → State}
    {s : State} (hk : ∀ a t, (k a t).dtr = t.dtr) : (endsGood p fl isFor k s).dtr = s.dtr :=
  endsGood_keeps _ (by simp) (by simp) hk

theorem countDropped_dtr (p : Port) (c : EndClass) (s : State) : (countDropped p c s).dtr = s.dtr := by
  unfold countDropped
  split <;> simp

theorem transitWalk_dtr (p : Port) (a : Arriving) (s : State) : (transitWalk p a s).dtr = s.dtr := by
  unfold transitWalk
  dsimp only
  split
  · rfl
  · split <;> simp

theorem expireDeadline_dtr (deadline : Uptime) (s : State) : (expireDeadline deadline s).dtr = s.dtr := by
  unfold expireDeadline
  dsimp only
  rw [foldl_keeps State.dtr (fun t x => by simp), foldl_keeps State.dtr (fun t x => by simp)]
  simp

theorem ownerDropped_dtr (p : Port) (src : Source) (s : State) : (ownerDropped p src s).dtr = s.dtr := by
  cases src <;> simp [ownerDropped]

theorem loseLink_dtr (p : Port) (s : State) : (loseLink p s).dtr = s.dtr := by
  unfold loseLink
  dsimp only
  rw [foldl_keeps State.dtr (fun t e => by simp [dropEntry, ownerDropped_dtr])]
  simp

theorem raiseLink_dtr (p : Port) (s : State) : (raiseLink p s).dtr = s.dtr := by
  unfold raiseLink
  dsimp only
  split <;> simp

theorem judgeBoot_dtr (reply : BootReply) (s : State) : (judgeBoot reply s).dtr = s.dtr := by
  unfold judgeBoot
  split
  · rfl
  · split <;> rfl

/-- A command that takes effect under a condition leaves DTR if both of its ends do. -/
theorem dtr_of_ite {b : Prop} [Decidable b] {s t u v : State}
    (h : (if b then .next t else .next u : Host.Outcome State Fault Refusal) = .next v)
    (ht : t.dtr = s.dtr) (hu : u.dtr = s.dtr) : v.dtr = s.dtr := by
  split at h
  · cases h
    exact ht
  · cases h
    exact hu

/-- Whether a command's effect may reach the server table. -/
def reachesServers : Instr → Bool
  | .hardReset | .queryEnd .. | .serverSilence .. | .serverEviction .. | .egressEnd .. | .mgmtReqEnd .. => true
  | _ => false

/-- Every command but a query, an ageing of an entry, a management frame and a reset leaves DTR. -/
theorem exec_dtr {c : Instr} (hc : reachesServers c = false) {s t : State} (h : exec c s = .next t) :
    t.dtr = s.dtr := by
  cases c with
  | hardReset => cases hc
  | queryEnd => cases hc
  | serverSilence => cases hc
  | serverEviction => cases hc
  | egressEnd => cases hc
  | mgmtReqEnd => cases hc
  | bootReadEnd reply => exact dtr_of_ite h (judgeBoot_dtr ..) rfl
  | bootReadTimeout => exact dtr_of_ite h (judgeBoot_dtr ..) rfl
  | oscillatorTick =>
    simp only [exec, execOscillatorTick] at h
    split at h
    · cases h
      rfl
    · cases h
      split <;> simp
  | pulseWidthExpiry => exact dtr_of_ite h rfl rfl
  | phaseTimerExpiry => exact dtr_of_ite h rfl rfl
  | frameStart p flow first =>
    refine dtr_of_ite h ?_ (by simp)
    split <;> simp
  | forPartDecision p flow =>
    cases h
    simp
  | gtpTransitWalk p flow =>
    simp only [exec, execGtpTransitWalk] at h
    split at h
    · cases h
      simp
    · cases h
      split <;> simp [transitWalk_dtr]
  | passThroughReady p flow =>
    cases h
    simp
  | frameEnd p flow =>
    cases h
    exact endsGood_dtr fun a t => countDropped_dtr ..
  | frameBadEnd p flow =>
    cases h
    simp
  | echoEnd p flow =>
    cases h
    rw [(finish_frame _).2.2.2.2.1]
    exact endsGood_dtr fun a t => by simp
  | probeTimerExpiry => exact dtr_of_ite h (by simp) rfl
  | growthTimerExpiry => exact dtr_of_ite h (by simp) rfl
  | storageCommandEnd p flow =>
    cases h
    rw [(finish_frame _).2.2.2.2.1]
    exact endsGood_dtr fun a t => by simp
  | storageCompletionEnd p flow =>
    cases h
    rw [(finish_frame _).2.2.2.2.1]
    exact endsGood_dtr fun a t => by simp
  | exchangeDeadline deadline => exact dtr_of_ite h (by simp [expireDeadline_dtr]) rfl
  | reportTimerExpiry => exact dtr_of_ite h (by simp [reportExpiry]) rfl
  | holdOffExpiry =>
    cases h
    simp
  | frameBoundary p flow => exact dtr_of_ite h (by simp) (by simp)
  | linkLoss p flow => exact dtr_of_ite h (by simp [loseLink_dtr]) (by simp)
  | linkUp p => exact dtr_of_ite h rfl (raiseLink_dtr ..)
  | resetInputRelease => exact dtr_of_ite h rfl rfl

/-! ### Samples and ageing -/

@[simp] theorem sampleEntry_servers {i : Nat} {sv : Server} {s : State} (h : serverAt i s = some sv)
    (ing : Ingress) (ts : Stamp) (d : BitVec 32) : (sampleEntry i ing ts d s).dtr.servers =
      s.dtr.servers.set i (some (sampleServer s.dtr.settings (decide ((quality s).code < 4)) ing ts d sv).server) := by
  simp [sampleEntry, h, recomputeMajority_dtr, countDtr]

/-- A sample held back leaves the state of its entry, but for a return from silence. -/
theorem sampleServer_state_of_held (st : DriftSettings) (ing : Ingress) (ts : Stamp) (d : BitVec 32)
    (sv : Server) : (sampleServer st true ing ts d sv).server.state = sv.wake.state := by
  have htake (u : Server) (o : Int) (k : Nat) : (u.take o ing.stamp k).state = u.state := by
    unfold Server.take
    dsimp only
    split <;> rfl
  have hwindow (u : Server) (w : Nat) (wild : Bool) : (u.windowStep ing.stamp w wild).1.state = u.state := by
    unfold Server.windowStep
    dsimp only
    split <;> rfl
  unfold sampleServer
  dsimp only
  simp only [if_true]
  split
  · simp [htake, Server.reseed, Server.book]
  · simp [htake, hwindow, Server.reseed, Server.book]

/-- No entry has moved between two evaluated states. -/
def Unmoved (s t : State) : Prop :=
  ∀ (i : Nat) (sv new : Server), serverAt i s = some sv → serverAt i t = some new → sv.state ≠ .silent →
    new.state ≠ .silent → new.state = sv.state

theorem unmoved_of_servers {s t : State} (h : t.dtr.servers = s.dtr.servers) : Unmoved s t := by
  intro i sv new hs ht _ _
  rw [serverAt, h, ← serverAt, hs] at ht
  cases ht
  rfl

/-- One entry has changed, as it may. -/
theorem unmoved_of_set {s t : State} {i : Nat} {e : Option Server}
    (h : t.dtr.servers = s.dtr.servers.set i e)
    (he : ∀ sv new, serverAt i s = some sv → e = some new → sv.state ≠ .silent → new.state ≠ .silent →
      new.state = sv.state) : Unmoved s t := by
  intro j sv new hs ht hsv hnew
  have hlt := lt_of_serverAt hs
  rw [serverAt, h] at ht
  by_cases hj : i = j
  · subst hj
    rw [List.getElem?_set_self hlt] at ht
    exact he sv new hs (by simpa using ht) hsv hnew
  · rw [List.getElem?_set_ne hj, ← serverAt, hs] at ht
    cases ht
    rfl

theorem unmoved_of_empty {s t : State} (h : t.dtr = {}) : Unmoved s t := by
  intro i sv new _ ht
  have hnone : serverAt i t = none := by
    rw [serverAt, h]
    change (List.replicate 48 (none : Option Server))[i]?.join = none
    rw [List.getElem?_replicate]
    split <;> rfl
  rw [hnone] at ht
  cases ht

theorem unmoved_sampleEntry {s : State} (hq : (quality s).code < 4) (i : Nat) (ing : Ingress) (ts : Stamp)
    (d : BitVec 32) : Unmoved s (sampleEntry i ing ts d s) := by
  cases hsv : serverAt i s with
  | none => exact unmoved_of_servers (by simp [sampleEntry, hsv])
  | some sv =>
    refine unmoved_of_set (sampleEntry_servers hsv ing ts d) fun sv' new h hnew hsilent _ => ?_
    rw [hsv] at h
    cases h
    cases hnew
    rw [decide_eq_true hq, sampleServer_state_of_held, Server.wake, if_neg hsilent]

theorem quality_of_eq {s t : State} (hrcu : t.rcu = s.rcu) (hdse : t.dse = s.dse) : quality t = quality s := by
  rw [quality, quality, hrcu, hdse]

/-- The state in which a LEARNED entry has been admitted and noticed, not sampled yet (R93). -/
def admittedState (i : Nat) (src : Address) (s : State) : State :=
  serverNotice i (learnedServer src) none (some .probation) .admitted
    (countDtr (fun c => { c with admissions := bump c.admissions }) (setServer i (some (learnedServer src)) s))

theorem admittedState_servers (i : Nat) (src : Address) (s : State) :
    (admittedState i src s).dtr.servers = s.dtr.servers.set i (some (learnedServer src)) := by
  simp [admittedState, countDtr]

theorem firstEmpty_lt {i : Nat} {s : State} (h : firstEmpty s = some i) : i < s.dtr.servers.length :=
  (List.findIdx?_eq_some_iff_getElem.mp h).1

theorem serverAt_admittedState {i : Nat} {src : Address} {s : State} (h : i < s.dtr.servers.length) :
    serverAt i (admittedState i src s) = some (learnedServer src) := by
  rw [serverAt, admittedState_servers, List.getElem?_set_self h]
  rfl

theorem unmoved_trackQuery {s : State} (hq : (quality s).code < 4) (src : Address) (ing : Ingress) (ts : Stamp)
    (d : BitVec 32) : Unmoved s (trackQuery src ing ts d s) := by
  unfold trackQuery
  split
  · exact unmoved_sampleEntry hq _ _ _ _
  · dsimp only
    split
    · split
      · exact unmoved_of_servers rfl
      · next i hi =>
        have hsv := serverAt_admittedState (src := src) (firstEmpty_lt hi)
        refine unmoved_of_set (i := i) ((sampleEntry_servers hsv ing ts d).trans
          (by rw [admittedState_servers, List.set_set])) fun sv new h => ?_
        rw [serverAt_firstEmpty hi] at h
        cases h
    · exact unmoved_of_servers rfl

theorem unmoved_trans {s t u : State} (h : Unmoved s t) (hu : u.dtr = t.dtr) : Unmoved s u := by
  intro i sv new hs ht
  rw [serverAt, hu, ← serverAt] at ht
  exact h i sv new hs ht

theorem unmoved_of_start {s t u : State} (ht : t.dtr = s.dtr) (h : Unmoved t u) : Unmoved s u := by
  intro i sv new hs
  rw [serverAt, ← ht, ← serverAt] at hs
  exact h i sv new hs

theorem completeSlot_dtr (n : Nat) (a : Address) (s : State) : (completeSlot n a s).dtr = s.dtr := by
  simp

theorem unmoved_takeQuery {s : State} (hq : (quality s).code < 4) (p : Port) (a : Arriving) :
    Unmoved s (takeQuery p a s) := by
  have htrack (t : State) (hrcu : t.rcu = s.rcu) (hdse : t.dse = s.dse) (hdtr : t.dtr = s.dtr) :
      Unmoved s (trackArrived a t) :=
    unmoved_of_start hdtr (unmoved_trackQuery (by rwa [quality_of_eq hrcu hdse]) _ _ _ _)
  unfold takeQuery
  split
  · next i n _ =>
    exact unmoved_trans (htrack (claimSlot n p a (countHit i s)) (by simp) (by simp) (by simp)) (by simp)
  · next m _ => exact htrack (chargeOverrun m p s) (by simp) (by simp) (by simp)
  · dsimp only
    split
    · exact unmoved_of_servers (by simp)
    · exact unmoved_of_servers (by simp)

theorem evictIfDue_servers (i : Nat) (s : State) : (evictIfDue i s).dtr.servers = s.dtr.servers ∨
    (evictIfDue i s).dtr.servers = s.dtr.servers.set i none := by
  unfold evictIfDue
  split
  · exact .inl rfl
  · split
    · exact .inr (by rw [clearServer_dtr]; rfl)
    · exact .inl rfl

theorem unmoved_evictIfDue (i : Nat) (s : State) : Unmoved s (evictIfDue i s) := by
  rcases evictIfDue_servers i s with h | h
  · exact unmoved_of_servers h
  · exact unmoved_of_set h fun _ _ _ hnew => by cases hnew

theorem unmoved_silenceIfDue (i : Nat) (s : State) : Unmoved s (silenceIfDue i s) := by
  unfold silenceIfDue
  split
  · exact unmoved_of_servers rfl
  · next sv hsv =>
    split
    · dsimp only
      generalize hu : giveChange i _ _ _ _ = u
      have hservers : u.dtr.servers = s.dtr.servers.set i (some { sv with state := .silent, run := 0 }) := by
        rw [← hu]
        simp [countDtr]
      rcases evictIfDue_servers i u with h | h
      · exact unmoved_of_set (h.trans hservers) fun _ new _ hnew _ hsilent => by
          cases hnew
          exact absurd rfl hsilent
      · exact unmoved_of_set (i := i) (e := none) (by rw [h, hservers, List.set_set]) fun _ _ _ hnew => by
          cases hnew
    · exact unmoved_of_servers rfl

theorem recomputeMajority_servers (s : State) : (recomputeMajority s).dtr.servers = s.dtr.servers := by
  rw [recomputeMajority_dtr]

theorem unmoved_finish_recompute {s t : State} (h : Unmoved s t) :
    Unmoved s (finish (recomputeMajority t)) := by
  intro i sv new hs ht
  rw [serverAt, (finish_frame _).2.2.2.2.1, recomputeMajority_servers] at ht
  exact h i sv new hs ht

theorem responseEnded_dtr (s : State) : (responseEnded s).dtr = s.dtr ∨ (responseEnded s).dtr = {} := by
  unfold responseEnded
  extract_lets resets m c t
  split
  · exact .inr rfl
  · exact .inl rfl

/-- The egress end of a frame leaves DTR, but for a soft reset. -/
theorem takeEgressEnd_dtr (p : Port) (s : State) :
    (takeEgressEnd p s).dtr = s.dtr ∨ (takeEgressEnd p s).dtr = {} := by
  unfold takeEgressEnd
  split
  · exact .inl rfl
  · next src octets _ _ =>
    cases src with
    | response => exact responseEnded_dtr (s.setPort p _)
    | _ => exact .inl (by simp [endOwn, ownerEnded])
  · split
    · exact .inl rfl
    · split
      · exact .inl rfl
      · exact .inl (by simp)

/-- Settles O36: only a query, an ageing, a management frame and a reset reach the server table at all. -/
theorem heldEvaluationMovesNoServer : Obligations.HeldEvaluationMovesNoServer := by
  intro c s t i sv new hmgmt hexec hq hs ht hsv hnew
  refine (?_ : Unmoved s t) i sv new hs ht hsv hnew
  by_cases hreach : reachesServers c = true
  · cases c with
    | hardReset =>
      cases hexec
      exact unmoved_of_empty rfl
    | queryEnd p flow =>
      cases hexec
      refine unmoved_trans ?_ (finish_frame _).2.2.2.2.1
      rcases endsGood_cases p flow (fun c => c == .query) (takeQuery p) s with h | ⟨a, _, _, _, h⟩
      · exact unmoved_of_servers (by rw [h]; simp)
      · rw [h]
        exact unmoved_of_start (by simp) (unmoved_takeQuery (by rwa [quality_of_eq (s := s) (by simp) (by simp)]) p a)
    | serverSilence n =>
      cases hexec
      exact unmoved_finish_recompute (unmoved_silenceIfDue _ s)
    | serverEviction n =>
      cases hexec
      exact unmoved_finish_recompute (unmoved_evictIfDue _ s)
    | egressEnd p flow =>
      cases hexec
      refine unmoved_trans ?_ (finish_frame _).2.2.2.2.1
      rcases takeEgressEnd_dtr p (applyFlow flow s) with h | h
      · exact unmoved_of_servers (by rw [h]; simp)
      · exact unmoved_of_empty h
    | mgmtReqEnd p flow => exact absurd rfl (hmgmt p flow)
    | _ => cases hreach
  · exact unmoved_of_servers (by rw [exec_dtr (Bool.eq_false_iff.mpr hreach) hexec])

end Sys2Proof.Proofs
end

section
/-! SUPPORT. The origination queues and their owners: the invariant with what is owed to a queue, and the
rules by which the effects keep it. -/

namespace Sys2Proof.Proofs

open Sys2Proof Sys2Proof.Machine Sys2Proof.Safety

/-! ### The words of the invariant -/

/-- The sources that the entries of a port's queue name. -/
def sourcesOf (s : State) (p : Port) : List Source := (s.port p).queue.map QueueEntry.source

/-- The sources that stand for a port: those of its queue, and on port `p₀` those owed to it. -/
def claims (p₀ : Port) (owed : List Source) (s : State) (p : Port) : List Source :=
  sourcesOf s p ++ if p = p₀ then owed else []

/-- The port that the owner of a source has its one frame for. -/
def ownerPort (s : State) : Source → Option Port
  | .slot n => slotPort s n
  | .probe => s.dse.frame.map ProbeFrame.port
  | .response => s.mgu.response.map Response.port
  | .report => s.rpe.inFlight.map InFlight.port
  | .alert => none

/-- How often a source has to stand for a port. -/
def due (s : State) (src : Source) (p : Port) : Nat :=
  if src = .alert then min 1 (alertHeld s p) else if ownerPort s src = some p then 1 else 0

/-- The queue of a port agrees with what leaves, and a port whose link is DOWN queues and sends nothing. -/
structure LineAgrees (e : Egm) : Prop where
  line : (e.queue.filter QueueEntry.inEgress).map QueueEntry.source = (lineOf e.egress).join.toList
  down : e.link = false → e.queue = [] ∧ e.egress = none

/-- The origination queues agree with their owners, but for what is owed to port `p₀`. -/
structure Agrees (p₀ : Port) (owed : List Source) (s : State) : Prop where
  slots : s.anu.slots.length = 8
  claimed : ∀ src p, (claims p₀ owed s p).count src = due s src p
  lines : ∀ p, LineAgrees (s.port p)
  sending : ∀ p, (p = p₀ ∧ .alert ∈ owed) ∨
    alertSending s p = if (lineOf (s.port p).egress).join = some .alert then 1 else 0

/-! ### The invariant without anything owed is the statement's -/

theorem ownInEgress_eq (s : State) (p : Port) : ownInEgress s p = (lineOf (s.port p).egress).join := by
  unfold ownInEgress
  split <;> simp [*, lineOf]

theorem entriesOf_eq (src : Source) (s : State) (p : Port) : entriesOf src s p = (sourcesOf s p).count src := by
  rw [entriesOf, sourcesOf, List.count, List.countP_map]
  rfl

theorem claims_nil (p₀ : Port) (s : State) (p : Port) : claims p₀ [] s p = sourcesOf s p := by
  rw [claims, ite_self, List.append_nil]

theorem namedOn_iff (src : Source) (on : Option Port) (s : State) :
    NamedOn src on s ↔ ∀ p, (sourcesOf s p).count src = if on = some p then 1 else 0 := by
  constructor
  · intro h p
    cases on with
    | none => cases p <;> simp_all [NamedOn, entriesOf_eq]
    | some q => cases p <;> cases q <;> simp_all [NamedOn, entriesOf_eq, Port.other]
  · intro h
    cases on with
    | none => exact ⟨by simpa [entriesOf_eq] using h .u, by simpa [entriesOf_eq] using h .k⟩
    | some q =>
      have hu := h .u
      have hk := h .k
      cases q <;> simp_all [NamedOn, entriesOf_eq, Port.other]

theorem slotPort_of_ge {s : State} {n : Nat} (h : s.anu.slots.length ≤ n) : slotPort s n = none := by
  simp [slotPort, List.getD_eq_getElem?_getD, List.getElem?_eq_none h]

theorem mem_sourcesOf {s : State} {p : Port} {e : QueueEntry} (h : e ∈ (s.port p).queue) :
    e.source ∈ sourcesOf s p := List.mem_map_of_mem h

theorem queuesConsistent_of_agrees {p₀ : Port} {s : State} (h : Agrees p₀ [] s) : QueuesConsistent s := by
  have hclaimed (src : Source) (p : Port) : (sourcesOf s p).count src = due s src p := by
    rw [← claims_nil p₀, h.claimed]
  have hnamed {src : Source} (hne : src ≠ .alert) : NamedOn src (ownerPort s src) s := by
    rw [namedOn_iff]
    intro p
    rw [hclaimed, due, if_neg hne]
  have hport (p : Port) : QueueAgrees s p := by
    refine ⟨by rw [ownInEgress_eq, (h.lines p).line], (h.lines p).down, fun e he => ?_, ?_, ?_⟩
    · have hmem := mem_sourcesOf he
      split
      · next n hn =>
        rw [hn] at hmem
        by_contra hge
        have hcount := hclaimed (.slot n) p
        have hnone : slotPort s n = none := slotPort_of_ge (by rw [h.slots]; omega)
        rw [due, if_neg (by simp), ownerPort, hnone, if_neg (by simp)] at hcount
        exact absurd hmem (List.count_eq_zero.mp hcount)
      all_goals trivial
    · rw [entriesOf_eq, hclaimed, due, if_pos rfl]
    · rw [ownInEgress_eq]
      rcases h.sending p with ⟨_, hmem⟩ | hsending
      · cases hmem
      · exact hsending
  exact ⟨h.slots, fun n => hnamed (src := .slot n) (by simp), hnamed (src := .probe) (by simp),
    hnamed (src := .response) (by simp), hnamed (src := .report) (by simp), hport .u, hport .k⟩

theorem agrees_of_queuesConsistent {s : State} (h : QueuesConsistent s) (p₀ : Port) : Agrees p₀ [] s := by
  obtain ⟨hslots, hslot, hprobe, hresponse, hreport, hu, hk⟩ := h
  have hport (p : Port) : QueueAgrees s p := by
    cases p
    · exact hu
    · exact hk
  refine ⟨hslots, fun src p => ?_, fun p => ?_, fun p => ?_⟩
  · obtain ⟨_, _, hrange, halert, _⟩ := hport p
    rw [claims_nil, due]
    cases src with
    | alert => rw [if_pos rfl, ← halert, entriesOf_eq]
    | probe => rw [if_neg (by simp)]; exact (namedOn_iff ..).mp hprobe p
    | response => rw [if_neg (by simp)]; exact (namedOn_iff ..).mp hresponse p
    | report => rw [if_neg (by simp)]; exact (namedOn_iff ..).mp hreport p
    | slot n =>
      rw [if_neg (by simp), ownerPort]
      by_cases hn : n < 8
      · exact (namedOn_iff ..).mp (hslot ⟨n, hn⟩) p
      · rw [slotPort_of_ge (by omega), if_neg (by simp), List.count_eq_zero]
        intro hmem
        obtain ⟨e, he, hsource⟩ := List.mem_map.mp hmem
        have := hrange e he
        rw [hsource] at this
        exact hn this
  · obtain ⟨hline, hdown, _⟩ := hport p
    exact ⟨by rw [hline, ownInEgress_eq], hdown⟩
  · obtain ⟨_, _, _, _, hsending⟩ := hport p
    rw [← ownInEgress_eq]
    exact .inr hsending

/-! ### What the invariant does not read -/

variable {p₀ : Port} {owed : List Source} {s t : State}

theorem slotPort_eq (s : State) (n : Nat) : slotPort s n = (s.anu.slots.map slotOwner).getD n none := by
  simp only [slotPort, List.getD_eq_getElem?_getD, List.getElem?_map]
  cases s.anu.slots[n]? <;> rfl

/-- The owners of the originated frames, by port, and the alert are as they were. -/
structure SameFrames (s t : State) : Prop where
  slots : t.anu.slots.map slotOwner = s.anu.slots.map slotOwner
  frame : t.dse.frame.map ProbeFrame.port = s.dse.frame.map ProbeFrame.port
  response : t.mgu.response.map Response.port = s.mgu.response.map Response.port
  inFlight : t.rpe.inFlight.map InFlight.port = s.rpe.inFlight.map InFlight.port
  alert : t.wru.alert = s.wru.alert

theorem SameFrames.slots_length (h : SameFrames s t) : t.anu.slots.length = s.anu.slots.length := by
  have := congrArg List.length h.slots
  simpa using this

theorem SameFrames.ownerPort (h : SameFrames s t) (src : Source) : ownerPort t src = ownerPort s src := by
  cases src with
  | slot n => rw [Proofs.ownerPort, Proofs.ownerPort, slotPort_eq, slotPort_eq, h.slots]
  | probe => exact h.frame
  | response => exact h.response
  | report => exact h.inFlight
  | alert => rfl

theorem SameFrames.due (h : SameFrames s t) (src : Source) (p : Port) : due t src p = due s src p := by
  rw [Proofs.due, Proofs.due, h.ownerPort, alertHeld, alertHeld, h.alert]

theorem SameFrames.sending (h : SameFrames s t) (p : Port) : alertSending t p = alertSending s p := by
  rw [alertSending, alertSending, h.alert]

theorem lineAgrees_of_sameLine {e e' : Egm} (h : SameLine e e') (he : LineAgrees e) : LineAgrees e' := by
  have hnone (x : Option InEgress) : lineOf x = none ↔ x = none := by
    cases x with
    | none => simp [lineOf]
    | some y => cases y <;> simp [lineOf]
  refine ⟨by rw [h.queue, h.egress, he.line], fun hdown => ?_⟩
  obtain ⟨hqueue, hegress⟩ := he.down (by rw [← h.link, hdown])
  exact ⟨by rw [h.queue, hqueue], by rw [← hnone, h.egress, hnone, hegress]⟩

/-- Whatever leaves the owners' frames and the lines leaves the queues in agreement. -/
theorem Agrees.of_same (h : Agrees p₀ owed s) (frames : SameFrames s t)
    (ports : ∀ p, SameLine (s.port p) (t.port p)) : Agrees p₀ owed t := by
  refine ⟨by rw [frames.slots_length, h.slots], fun src p => ?_, fun p => ?_, fun p => ?_⟩
  · rw [frames.due, ← h.claimed, claims, claims, sourcesOf, sourcesOf, (ports p).queue]
  · exact lineAgrees_of_sameLine (ports p) (h.lines p)
  · rw [frames.sending, (ports p).egress]
    exact h.sending p

theorem SameFrames.of_eq (anu : t.anu = s.anu) (frame : t.dse.frame = s.dse.frame) (mgu : t.mgu = s.mgu)
    (inFlight : t.rpe.inFlight = s.rpe.inFlight) (alert : t.wru.alert = s.wru.alert) : SameFrames s t :=
  ⟨by rw [anu], by rw [frame], by rw [mgu], by rw [inFlight], alert⟩

theorem sameLine_of_egm (h : t.egm = s.egm) (p : Port) : SameLine (s.port p) (t.port p) := by
  rw [State.port, State.port, h]
  exact .refl _

/-- An update of blocks that hold no frames. -/
theorem Agrees.of_eq (h : Agrees p₀ owed s) (anu : t.anu = s.anu) (frame : t.dse.frame = s.dse.frame)
    (mgu : t.mgu = s.mgu) (inFlight : t.rpe.inFlight = s.rpe.inFlight) (alert : t.wru.alert = s.wru.alert)
    (egm : t.egm = s.egm) : Agrees p₀ owed t :=
  h.of_same (.of_eq anu frame mgu inFlight alert) (sameLine_of_egm egm)

/-! ### An entry takes its place -/

theorem sourcesOf_pushEntry (p : Port) (src : Source) (s : State) (q : Port) :
    sourcesOf (pushEntry p src s) q = sourcesOf s q ++ if q = p then [src] else [] := by
  unfold sourcesOf pushEntry
  by_cases hq : q = p
  · subst hq
    simp
  · simp [hq, setPort_port_ne _ _ _ _ hq]

theorem lineAgrees_push {e : Egm} (h : LineAgrees e) (up : e.link = true) (src : Source) :
    LineAgrees { e with queue := e.queue ++ [{ source := src }] } :=
  ⟨by simpa using h.line, fun hdown => by simp [up] at hdown⟩

theorem pushEntry_lines (h : ∀ q, LineAgrees (s.port q)) {p : Port} (up : (s.port p).link = true)
    (src : Source) (q : Port) : LineAgrees ((pushEntry p src s).port q) := by
  unfold pushEntry
  by_cases hq : q = p
  · rw [hq, setPort_port_same]
    exact lineAgrees_push (h p) up src
  · rw [setPort_port_ne _ _ _ _ hq]
    exact h q

theorem pushEntry_egress (p : Port) (src : Source) (s : State) (q : Port) :
    ((pushEntry p src s).port q).egress = (s.port q).egress := by
  unfold pushEntry
  by_cases hq : q = p
  · rw [hq, setPort_port_same]
  · rw [setPort_port_ne _ _ _ _ hq]

theorem pushEntry_link (p : Port) (src : Source) (s : State) (q : Port) :
    ((pushEntry p src s).port q).link = (s.port q).link := by
  unfold pushEntry
  by_cases hq : q = p
  · rw [hq, setPort_port_same]
  · rw [setPort_port_ne _ _ _ _ hq]

theorem count_claims_pushEntry (p : Port) (src : Source) (s : State) (x : Source) (q : Port) :
    (claims p₀ owed (pushEntry p src s) q).count x =
      (claims p₀ owed s q).count x + if q = p ∧ x = src then 1 else 0 := by
  rw [claims, claims, sourcesOf_pushEntry, List.count_append, List.count_append, List.count_append]
  by_cases hq : q = p
  · by_cases hx : x = src
    · simp [hq, hx]
      omega
    · simp [hq, hx, Ne.symm hx]
  · simp [hq]

/-- An owner that had no frame has one for a port whose link is UP, and its entry is queued there. -/
theorem Agrees.push (h : Agrees p₀ owed s) {src : Source} {p : Port} (hsrc : src ≠ .alert)
    (up : (s.port p).link = true) (before : ownerPort s src = none) (after : ownerPort t src = some p)
    (others : ∀ x, x ≠ src → ownerPort t x = ownerPort s x) (slots : t.anu.slots.length = s.anu.slots.length)
    (alert : t.wru.alert = s.wru.alert) (egm : t.egm = s.egm) : Agrees p₀ owed (pushEntry p src t) := by
  have hport (q : Port) : t.port q = s.port q := by rw [State.port, State.port, egm]
  refine ⟨by simpa [slots] using h.slots, fun x q => ?_, ?_, fun q => ?_⟩
  · have hclaims : claims p₀ owed t q = claims p₀ owed s q := by rw [claims, claims, sourcesOf, sourcesOf, hport]
    have hdue : due (pushEntry p src t) x q = due t x q :=
      SameFrames.due (.of_eq rfl rfl rfl rfl rfl) x q
    rw [count_claims_pushEntry, hclaims, h.claimed, hdue]
    by_cases hx : x = src
    · subst hx
      rw [due, due, if_neg hsrc, if_neg hsrc, before, after]
      simp [eq_comm]
    · rw [if_neg (fun hand => hx hand.2), due, due, others x hx, alertHeld, alertHeld, alert]
      rfl
  · exact pushEntry_lines (fun q => by rw [hport]; exact h.lines q) (by rw [hport]; exact up) src
  · have hsending : alertSending (pushEntry p src t) q = alertSending s q := by
      simp [alertSending, alert]
    rw [pushEntry_egress, hport, hsending]
    exact h.sending q

end Sys2Proof.Proofs
end

section
/-! SUPPORT. Every effect that is not loose keeps the origination queues in agreement with their owners. -/

namespace Sys2Proof.Proofs

open Sys2Proof Sys2Proof.Machine Sys2Proof.Safety

variable {p₀ : Port} {owed : List Source} {s t : State}

/-! ### Reports and alerts are built -/

theorem reportCanBuild_spec (h : reportCanBuild s = true) : s.rpe.inFlight = none ∧
    (s.port s.mgu.station.collectorPort).link = true := by
  simp only [reportCanBuild, Bool.and_eq_true, Option.isNone_iff_eq_none] at h
  obtain ⟨⟨⟨_, hnone⟩, _⟩, hlink⟩ := h
  exact ⟨hnone, hlink⟩

theorem agrees_buildReport (can : reportCanBuild s = true) (h : Agrees p₀ owed s) :
    Agrees p₀ owed (buildReport s) := by
  obtain ⟨hnone, hlink⟩ := reportCanBuild_spec can
  refine h.push (src := .report) (by simp) hlink (by simp [ownerPort, hnone]) rfl (fun x hx => ?_) rfl rfl rfl
  cases x with
  | report => exact absurd rfl hx
  | _ => rfl

theorem alertCanBuild_spec (h : alertCanBuild s = true) : s.wru.alert = none ∧
    (s.port s.mgu.station.collectorPort).link = true := by
  simp only [alertCanBuild, Bool.and_eq_true, Option.isNone_iff_eq_none] at h
  obtain ⟨⟨⟨_, hlink⟩, hnone⟩, _⟩ := h
  exact ⟨hnone, hlink⟩

/-- The alert that is built, its copies QUEUED. -/
def builtAlert (s : State) : Alert :=
  { collector := ⟨s.mgu.station.collectorPort, .queued, alertFrame s.mgu.station.collector s⟩
    manager := if managerCopy s = .shared ∨ managerCopy s = .separate then
      some ⟨s.mgu.managerPort, .queued, alertFrame s.mgu.station.manager s⟩ else none }

/-- The state with the alert built, its entries not queued yet. -/
def alertFormed (s : State) : State :=
  { s with wru := { s.wru with
    alert := some (builtAlert s)
    alertSeq := s.wru.alertSeq + 1
    alertDue := false
    ctr := { s.wru.ctr with
      built := bump s.wru.ctr.built
      managerOmitted := if managerCopy s = .omitted then bump s.wru.ctr.managerOmitted
                        else s.wru.ctr.managerOmitted } } }

theorem buildAlert_eq (s : State) : buildAlert s =
    if managerCopy s = .separate then
      pushEntry s.mgu.managerPort .alert (pushEntry s.mgu.station.collectorPort .alert (alertFormed s))
    else pushEntry s.mgu.station.collectorPort .alert (alertFormed s) := rfl

/-- The manager copy shares the collector's port exactly when it is not separate. -/
theorem managerCopy_port (s : State) :
    (managerCopy s = .shared → s.mgu.managerPort = s.mgu.station.collectorPort) ∧
      (managerCopy s = .separate → s.mgu.managerPort ≠ s.mgu.station.collectorPort ∧
        (s.port s.mgu.managerPort).link = true) := by
  unfold managerCopy
  repeat' split
  all_goals simp_all

theorem liveOn_queued (q p : Port) (o : List Byte) : AlertCopy.liveOn p ⟨q, .queued, o⟩ = (q == p) := by
  simp [AlertCopy.liveOn, AlertCopy.live]

theorem sendingOn_queued (q p : Port) (o : List Byte) : AlertCopy.sendingOn p ⟨q, .queued, o⟩ = false := by
  simp [AlertCopy.sendingOn]

theorem heldOn_builtAlert (s : State) (p : Port) : (builtAlert s).heldOn p =
    (if s.mgu.station.collectorPort = p then 1 else 0) +
      if (managerCopy s = .shared ∨ managerCopy s = .separate) ∧ s.mgu.managerPort = p then 1 else 0 := by
  unfold builtAlert Alert.heldOn
  by_cases hkind : managerCopy s = .shared ∨ managerCopy s = .separate
  · simp only [liveOn_queued, beq_iff_eq, hkind, true_and, if_true]
  · simp only [liveOn_queued, beq_iff_eq, hkind, false_and, if_false]

theorem buildAlert_alert (s : State) : (buildAlert s).wru.alert = some (builtAlert s) := by
  rw [buildAlert_eq]
  split <;> simp [alertFormed]

theorem alertSending_buildAlert (s : State) (p : Port) : alertSending (buildAlert s) p = 0 := by
  rw [alertSending, buildAlert_alert]
  by_cases hkind : managerCopy s = .shared ∨ managerCopy s = .separate
  · simp only [builtAlert, sendingOn_queued, hkind, if_true, Bool.false_eq_true, if_false]
  · simp only [builtAlert, sendingOn_queued, hkind, Bool.false_eq_true, if_false]

theorem count_claims_buildAlert (s : State) (x : Source) (q : Port) :
    (claims p₀ owed (buildAlert s) q).count x = (claims p₀ owed s q).count x +
      ((if q = s.mgu.station.collectorPort ∧ x = .alert then 1 else 0) +
        if managerCopy s = .separate ∧ q = s.mgu.managerPort ∧ x = .alert then 1 else 0) := by
  have hformed : claims p₀ owed (alertFormed s) q = claims p₀ owed s q := rfl
  rw [buildAlert_eq]
  split
  · next hkind => simp only [count_claims_pushEntry, hformed, hkind, true_and, Nat.add_assoc]
  · next hkind => simp only [count_claims_pushEntry, hformed, hkind, false_and, if_false, Nat.add_zero]

theorem buildAlert_egress (s : State) (q : Port) : ((buildAlert s).port q).egress = (s.port q).egress := by
  have hformed : (alertFormed s).port q = s.port q := rfl
  rw [buildAlert_eq]
  split <;> simp only [pushEntry_egress, hformed]

/-- The copies of a new alert stand for exactly the entries that are queued with it. -/
theorem due_alert_buildAlert (s : State) (q : Port) : due (buildAlert s) .alert q =
    (if q = s.mgu.station.collectorPort then 1 else 0) +
      if managerCopy s = .separate ∧ q = s.mgu.managerPort then 1 else 0 := by
  obtain ⟨hshared, hseparate⟩ := managerCopy_port s
  rw [due, if_pos rfl, alertHeld, buildAlert_alert]
  simp only [heldOn_builtAlert, eq_comm (a := q)]
  cases hkind : managerCopy s with
  | absent => by_cases hc : s.mgu.station.collectorPort = q <;> simp [hc]
  | omitted => by_cases hc : s.mgu.station.collectorPort = q <;> simp [hc]
  | shared => by_cases hc : s.mgu.station.collectorPort = q <;> simp [hshared hkind, hc]
  | separate =>
    have hne := (hseparate hkind).1
    by_cases hc : s.mgu.station.collectorPort = q
    · simp [hc, show s.mgu.managerPort ≠ q from hc ▸ hne]
    · by_cases hm : s.mgu.managerPort = q <;> simp [hc, hm]

theorem agrees_buildAlert (can : alertCanBuild s = true) (h : Agrees p₀ owed s) :
    Agrees p₀ owed (buildAlert s) := by
  obtain ⟨hnone, hlink⟩ := alertCanBuild_spec can
  refine ⟨by simpa using h.slots, fun x q => ?_, fun q => ?_, fun q => ?_⟩
  · rw [count_claims_buildAlert, h.claimed]
    by_cases hx : x = .alert
    · subst hx
      rw [due_alert_buildAlert]
      simp [due, alertHeld, hnone]
    · have howner : ownerPort (buildAlert s) x = ownerPort s x := by
        cases x <;> simp [ownerPort, slotPort]
      simp [due, hx, howner]
  · have hcollector := pushEntry_lines (s := alertFormed s) (p := s.mgu.station.collectorPort) h.lines hlink .alert
    rw [buildAlert_eq]
    split
    · next hkind =>
      exact pushEntry_lines hcollector (by rw [pushEntry_link]; exact ((managerCopy_port s).2 hkind).2) .alert q
    · exact hcollector q
  · rw [alertSending_buildAlert, buildAlert_egress]
    have hbefore := h.sending q
    rwa [alertSending, hnone] at hbefore

/-! ### A PROBE frame is queued and withdrawn -/

theorem agrees_queueProbe {f : ProbeFrame} (unqueued : s.dse.frame = none) (up : (s.port f.port).link = true)
    (h : Agrees p₀ owed s) :
    Agrees p₀ owed (pushEntry f.port .probe { s with dse := { s.dse with frame := some f } }) := by
  refine h.push (src := .probe) (by simp) up (by simp [ownerPort, unqueued]) rfl (fun x hx => ?_) rfl rfl rfl
  cases x with
  | probe => exact absurd rfl hx
  | _ => rfl

/-- A queue without its PROBE entry. -/
def withoutProbe (e : Egm) : Egm := { e with queue := e.queue.filter fun x => x.source != .probe }

theorem withdrawProbe_of_frame {f : ProbeFrame} (h : s.dse.frame = some f) : withdrawProbe s =
    { s.setPort f.port (withoutProbe (s.port f.port)) with dse := { s.dse with frame := none } } := by
  simp [withdrawProbe, h, withoutProbe]

theorem count_withoutProbe (l : List QueueEntry) (x : Source) :
    ((l.filter fun e => e.source != .probe).map QueueEntry.source).count x =
      if x = .probe then 0 else (l.map QueueEntry.source).count x := by
  induction l with
  | nil => simp
  | cons e l ih =>
    by_cases he : e.source = .probe
    · simp only [List.filter_cons, he, bne_self_eq_false, Bool.false_eq_true, if_false, ih, List.map_cons]
      by_cases hx : x = .probe
      · simp [hx]
      · simp [hx, Ne.symm hx]
    · simp only [List.filter_cons, bne_iff_ne.mpr he, if_true, List.map_cons, List.count_cons, ih]
      by_cases hx : x = .probe
      · simp [hx, he]
      · simp [hx]

theorem lineAgrees_withoutProbe {e : Egm} (h : LineAgrees e)
    (hqueued : (e.queue.any fun x => x.source == .probe && x.inEgress) = false) :
    LineAgrees (withoutProbe e) := by
  have hfilter : (e.queue.filter fun x => x.source != .probe).filter QueueEntry.inEgress =
      e.queue.filter QueueEntry.inEgress := by
    rw [List.filter_filter]
    refine List.filter_congr fun x hx => ?_
    have hno := List.any_eq_false.mp hqueued x hx
    cases hin : x.inEgress <;> simp_all
  refine ⟨by rw [withoutProbe, hfilter]; exact h.line, fun hdown => ?_⟩
  obtain ⟨hqueue, hegress⟩ := h.down hdown
  exact ⟨by simp [withoutProbe, hqueue], hegress⟩

theorem withdrawProbe_port {f : ProbeFrame} (h : s.dse.frame = some f) (q : Port) :
    (withdrawProbe s).port q = if q = f.port then withoutProbe (s.port q) else s.port q := by
  rw [withdrawProbe_of_frame h]
  by_cases hq : q = f.port
  · rw [if_pos hq, hq]
    exact setPort_port_same ..
  · rw [if_neg hq]
    exact setPort_port_ne _ _ _ _ hq

theorem agrees_withdrawProbe (queued : probeInEgress s = false) (hprobe : .probe ∉ owed)
    (h : Agrees p₀ owed s) : Agrees p₀ owed (withdrawProbe s) := by
  cases hf : s.dse.frame with
  | none => simpa [withdrawProbe, hf] using h
  | some f =>
    have hqueued : ((s.port f.port).queue.any fun x => x.source == .probe && x.inEgress) = false := by
      simpa [probeInEgress, hf] using queued
    have hport (q : Port) := withdrawProbe_port hf q
    have hothers (x : Source) (hx : x ≠ .probe) : ownerPort (withdrawProbe s) x = ownerPort s x := by
      cases x with
      | probe => exact absurd rfl hx
      | _ => simp [ownerPort, slotPort]
    refine ⟨by simpa using h.slots, fun x q => ?_, fun q => ?_, fun q => ?_⟩
    · have hold := h.claimed x q
      rw [claims, List.count_append, sourcesOf] at hold ⊢
      by_cases hx : x = .probe
      · have howed : (if q = p₀ then owed else []).count x = 0 := by
          rw [List.count_eq_zero, hx]
          split
          · exact hprobe
          · exact List.not_mem_nil
        rw [howed] at hold ⊢
        subst hx
        have hdue : due (withdrawProbe s) .probe q = 0 := by simp [due, ownerPort, withdrawProbe_dse]
        rw [hdue, hport]
        by_cases hq : q = f.port
        · rw [if_pos hq, withoutProbe, count_withoutProbe]
          rfl
        · rw [if_neg hq, hold]
          simp [due, ownerPort, hf, Ne.symm hq]
      · have hdue : due (withdrawProbe s) x q = due s x q := by
          rw [due, due, hothers x hx]
          simp [alertHeld]
        rw [hdue, ← hold, hport]
        by_cases hq : q = f.port
        · rw [if_pos hq, withoutProbe, count_withoutProbe, if_neg hx]
        · rw [if_neg hq]
    · rw [hport]
      split
      · next hq => exact lineAgrees_withoutProbe (h.lines q) (hq ▸ hqueued)
      · exact h.lines q
    · have hegress : ((withdrawProbe s).port q).egress = (s.port q).egress := by
        rw [hport]
        split <;> rfl
      rw [hegress, alertSending, (withdrawProbe_frame s).2.2.2.2.1]
      exact h.sending q

/-! ### Every effect -/

theorem agrees_latch (b : Nat) (h : Agrees p₀ owed s) : Agrees p₀ owed (latch b s) :=
  h.of_eq (by simp) (by simp) (by simp) (by simp) (by simp) (by simp)

theorem agrees_dueCheck (h : Agrees p₀ owed s) : Agrees p₀ owed (dueCheck s) := by
  rcases dueCheck_cases s with ⟨_, heq⟩ | ⟨can, heq⟩
  · rwa [heq]
  · rw [heq]
    exact agrees_buildReport can h

theorem agrees_indifferent (p₀ : Port) (owed : List Source) : Indifferent (Agrees p₀ owed) where
  clock _ _ h := h.of_eq rfl rfl rfl rfl rfl rfl
  dse _ _ frame h := h.of_eq rfl frame rfl rfl rfl rfl
  dtr _ _ h := h.of_eq rfl rfl rfl rfl rfl rfl
  offer r s h := by
    rcases offer_cases r s with ⟨_, heq⟩ | ⟨_, heq⟩
    · rw [heq]
      refine agrees_dueCheck ?_
      exact h.of_eq rfl rfl rfl rfl rfl rfl
    · rw [heq]
      refine agrees_latch 53 ?_
      exact h.of_eq rfl rfl rfl rfl rfl rfl
  edge b e select s h := h.of_eq (by simp) (by simp) (by simp) (by simp) (by simp) (by simp)

/-- Every effect that is not loose keeps the queues in agreement, but for what is owed. -/
theorem effect_agrees (he : Effect false s t) (hprobe : .probe ∉ owed) (hs : Agrees p₀ owed s) :
    Agrees p₀ owed t := by
  have h := agrees_indifferent p₀ owed
  cases he with
  | plain core owners =>
    obtain ⟨hslots, hresponse, hports⟩ := owners.resolve_left (by decide)
    exact hs.of_same ⟨hslots, by rw [core.dse], hresponse, by rw [core.rpe], by rw [core.wru]⟩ hports
  | clock => exact h.clock s _ hs
  | rate => exact h.clock s _ hs
  | dse d _ _ _ _ _ _ frame => exact h.dse s d (frame.resolve_left (by decide)) hs
  | history => exact h.dse s _ rfl hs
  | holdover => exact h.beginHoldover _ hs
  | freerun => exact h.setDState _ _ (h.dse s _ rfl hs)
  | serve => exact h.setDState _ _ (h.dse s _ rfl hs)
  | start => exact h.startDiscipline _ hs
  | stop => exact h.stopDiscipline _ hs
  | dtr => exact h.dtr s _ hs
  | majority => exact h.recomputeMajority _ hs
  | newServer => exact h.dtr s _ hs
  | server => exact h.changeServer _ _ _ _ _ _ hs
  | clear => exact h.clearServer _ _ _ _ hs
  | silentWarn => exact h.setSilentWarn _ _ hs
  | wru w _ _ alert => exact hs.of_eq rfl rfl rfl rfl (alert.resolve_left (by decide)) rfl
  | alert can => exact agrees_buildAlert can hs
  | rpe r inFlight =>
    rcases inFlight with hin | ⟨hfalse, _⟩
    · exact hs.of_eq rfl rfl rfl hin rfl rfl
    · cases hfalse
  | report can => exact agrees_buildReport can hs
  | probe f unqueued up => exact agrees_queueProbe unqueued up hs
  | withdraw queued => exact agrees_withdrawProbe queued hprobe hs
  | deliver told => cases told
  | softReset told => cases told
  | hardReset told => cases told
  | _ => exact hs.of_eq (by simp) (by simp) (by simp) (by simp) (by simp) (by simp)

end Sys2Proof.Proofs
end

section
/-! SUPPORT. The egress start, the egress end and the loss of a link keep the origination queues in agreement
with their owners. -/

namespace Sys2Proof.Proofs

open Sys2Proof Sys2Proof.Machine Sys2Proof.Safety

variable {p₀ : Port} {owed : List Source} {s t : State}

theorem Agrees.effects (h : Agrees p₀ owed s) (he : Effects false s t) (hprobe : .probe ∉ owed) :
    Agrees p₀ owed t := he.keeps (fun _ _ e hs => effect_agrees e hprobe hs) h

theorem Agrees.effects_nil (h : Agrees p₀ [] s) (he : Effects false s t) : Agrees p₀ [] t :=
  h.effects he List.not_mem_nil

/-! ### The copies of an alert -/

/-- The number of copies of an alert with a property. -/
def copyCount (f : AlertCopy → Bool) (a : Alert) : Nat :=
  (if f a.collector then 1 else 0) + match a.manager with
    | none => 0
    | some m => if f m then 1 else 0

theorem alertHeld_eq {a : Alert} (h : s.wru.alert = some a) (p : Port) :
    alertHeld s p = copyCount (AlertCopy.liveOn p) a := by
  rw [alertHeld, h]
  rfl

theorem alertSending_eq {a : Alert} (h : s.wru.alert = some a) (p : Port) :
    alertSending s p = copyCount (AlertCopy.sendingOn p) a := by
  rw [alertSending, h]
  rfl

/-- A live copy is QUEUED or SENDING, and not both. -/
theorem liveOn_cases (p : Port) (c : AlertCopy) : (if c.liveOn p then 1 else 0) =
    (if c.queuedOn p then 1 else 0) + (if c.sendingOn p then 1 else 0) := by
  unfold AlertCopy.liveOn AlertCopy.live AlertCopy.queuedOn AlertCopy.sendingOn
  cases c.phase <;> simp

theorem copyCount_live (p : Port) (a : Alert) : copyCount (AlertCopy.liveOn p) a =
    copyCount (AlertCopy.queuedOn p) a + copyCount (AlertCopy.sendingOn p) a := by
  unfold copyCount
  rw [liveOn_cases]
  cases a.manager with
  | none => simp
  | some m =>
    simp only [liveOn_cases]
    omega

theorem copyCount_queued_pos {a : Alert} (h : s.wru.alert = some a) (p : Port) :
    alertQueuedOn p s = true ↔ 0 < copyCount (AlertCopy.queuedOn p) a := by
  obtain ⟨collector, manager, lastEnd⟩ := a
  unfold alertQueuedOn copyCount
  rw [h]
  cases hc : collector.queuedOn p with
  | true => simp [hc]
  | false =>
    cases manager with
    | none => simp [hc]
    | some m => cases hm : m.queuedOn p <;> simp [hc, hm]

/-- The last effect on an alert: it stays in progress while a copy is live. -/
theorem settleAlert_counts (a : Alert) (s : State) (p : Port) :
    alertHeld (settleAlert a s) p = copyCount (AlertCopy.liveOn p) a ∧
      alertSending (settleAlert a s) p = copyCount (AlertCopy.sendingOn p) a := by
  by_cases hlive : a.live = true
  · have hsome : (settleAlert a s).wru.alert = some a := by simp [settleAlert, hlive]
    exact ⟨alertHeld_eq hsome p, alertSending_eq hsome p⟩
  · have hnone : (settleAlert a s).wru.alert = none := by simp [settleAlert, hlive, callAlertTest]
    have hdead : copyCount (AlertCopy.liveOn p) a = 0 := by
      simp only [Alert.live, Bool.or_eq_true, not_or] at hlive
      obtain ⟨hcollector, hmanager⟩ := hlive
      unfold copyCount
      cases hm : a.manager with
      | none => simp [AlertCopy.liveOn, hcollector]
      | some m =>
        rw [hm] at hmanager
        simp [AlertCopy.liveOn, hcollector, hmanager]
    have hsum := copyCount_live p a
    rw [alertHeld, alertSending, hnone]
    refine ⟨hdead.symm, ?_⟩
    change 0 = _
    omega

/-! ### A port's EGM is replaced -/

theorem sourcesOf_setPort (p : Port) (e : Egm) (s : State) (q : Port) :
    sourcesOf (s.setPort p e) q = if q = p then e.queue.map QueueEntry.source else sourcesOf s q := by
  unfold sourcesOf
  by_cases hq : q = p
  · rw [hq, setPort_port_same, if_pos rfl]
  · rw [setPort_port_ne _ _ _ _ hq, if_neg hq]

theorem setPort_lines {p : Port} {e : Egm} (h : ∀ q, LineAgrees (s.port q)) (he : LineAgrees e) (q : Port) :
    LineAgrees ((s.setPort p e).port q) := by
  by_cases hq : q = p
  · rw [hq, setPort_port_same]
    exact he
  · rw [setPort_port_ne _ _ _ _ hq]
    exact h q

/-- A port may change all but the sources of its queue and what of its own is in egress. -/
theorem Agrees.setPort (h : Agrees p₀ owed s) {p : Port} {e : Egm}
    (queue : e.queue.map QueueEntry.source = sourcesOf s p) (line : LineAgrees e)
    (owner : (lineOf e.egress).join = (lineOf (s.port p).egress).join) : Agrees p₀ owed (s.setPort p e) := by
  refine ⟨h.slots, fun x q => ?_, setPort_lines h.lines line, fun q => ?_⟩
  · have hsame : claims p₀ owed (s.setPort p e) q = claims p₀ owed s q := by
      rw [claims, claims, sourcesOf_setPort]
      split
      · next hq => rw [queue, hq]
      · rfl
    rw [hsame, h.claimed]
    exact (SameFrames.due (.of_eq rfl rfl rfl rfl rfl) x q).symm
  · have howner : (lineOf ((s.setPort p e).port q).egress).join = (lineOf (s.port q).egress).join := by
      by_cases hq : q = p
      · rw [hq, setPort_port_same, owner]
      · rw [setPort_port_ne _ _ _ _ hq]
    rw [howner]
    exact h.sending q

/-! ### Egress start -/

theorem choiceByClass_mem {q : List QueueEntry} {src : Source} (h : choiceByClass q = some src) :
    src ∈ q.map QueueEntry.source := by
  have hany {x : Source} (hx : (q.any fun e => e.source == x) = true) : x ∈ q.map QueueEntry.source := by
    obtain ⟨e, he, hsource⟩ := List.any_eq_true.mp hx
    exact List.mem_map.mpr ⟨e, he, eq_of_beq hsource⟩
  unfold choiceByClass at h
  split at h
  · next hx => cases h; exact hany hx
  split at h
  · next hx => cases h; exact hany hx
  split at h
  · next hx => cases h; exact hany hx
  · cases h

/-- The arbiter lets go only what stands in the queue. -/
theorem choose_mem {e : Egm} {src : Source} (h : choose e = some (.entry src)) :
    src ∈ e.queue.map QueueEntry.source := by
  unfold choose at h
  split at h
  · next x hx =>
    cases h
    exact List.mem_map_of_mem (List.mem_of_find?_eq_some hx)
  · unfold choosePlain at h
    split at h
    · obtain ⟨y, hy, hsrc⟩ := Option.map_eq_some_iff.mp h
      cases hsrc
      exact choiceByClass_mem hy
    split at h
    · cases h
    · obtain ⟨y, hy, hsrc⟩ := Option.map_eq_some_iff.mp h
      cases hsrc
      exact List.mem_map_of_mem (List.mem_of_head? hy)

theorem markEntry_sources (src : Source) (q : List QueueEntry) :
    (markEntry src q).map QueueEntry.source = q.map QueueEntry.source := by
  rw [markEntry, List.map_map]
  refine List.map_congr_left fun e _ => ?_
  simp only [Function.comp]
  split <;> rfl

/-- Where no entry is IN_EGRESS, the marked entries are those of the source. -/
theorem markEntry_inEgress {src : Source} {q : List QueueEntry} (h : q.filter QueueEntry.inEgress = []) :
    ((markEntry src q).filter QueueEntry.inEgress).map QueueEntry.source =
      List.replicate ((q.map QueueEntry.source).count src) src := by
  induction q with
  | nil => rfl
  | cons e q ih =>
    rw [List.filter_cons] at h
    split at h
    · cases h
    · next hout =>
      have hrest := ih h
      unfold markEntry at hrest ⊢
      by_cases he : e.source = src
      · simp [he, hrest, List.replicate_succ]
      · simp [he, hout, hrest]

/-- The EGM of a port on which an originated frame begins to leave (R191, R193). -/
def lineTaken (e : Egm) (src : Source) (octets : List Byte) : Egm :=
  { e with
    queue := markEntry src e.queue
    egress := some (.own src (octets ++ checkSequence octets) 1) }

theorem putOnLine_eq (p : Port) (src : Source) (octets : List Byte) (s : State) :
    putOnLine p src octets s = s.setPort p (lineTaken (s.port p) src octets) := rfl

theorem lineAgrees_lineTaken {e : Egm} {src : Source} (octets : List Byte) (h : LineAgrees e)
    (idle : e.egress = none) (up : e.link = true) (once : (e.queue.map QueueEntry.source).count src = 1) :
    LineAgrees (lineTaken e src octets) := by
  have hnone : e.queue.filter QueueEntry.inEgress = [] := by
    have hline := h.line
    rw [idle] at hline
    simpa [lineOf] using hline
  refine ⟨?_, fun hdown => ?_⟩
  · change ((markEntry src e.queue).filter QueueEntry.inEgress).map QueueEntry.source = [src]
    rw [markEntry_inEgress hnone, once]
    rfl
  · change e.link = false at hdown
    rw [up] at hdown
    cases hdown

/-- A source that stands in a queue stands there once. -/
theorem Agrees.count_eq_one (h : Agrees p₀ [] s) {src : Source} {p : Port} (hmem : src ∈ sourcesOf s p) :
    (sourcesOf s p).count src = 1 := by
  have hpos := List.count_pos_iff.mpr hmem
  have hclaimed := h.claimed src p
  rw [claims_nil, due] at hclaimed
  split at hclaimed
  · omega
  · split at hclaimed <;> omega

/-- An entry other than the alert's goes onto the line. -/
theorem Agrees.putOnLine (h : Agrees p₀ [] s) {src : Source} {p : Port} (hsrc : src ≠ .alert)
    (hmem : src ∈ sourcesOf s p) (idle : (s.port p).egress = none) (up : (s.port p).link = true)
    (octets : List Byte) : Agrees p₀ [] (putOnLine p src octets s) := by
  refine ⟨h.slots, fun x q => ?_, ?_, fun q => .inr ?_⟩
  · have hsame : sourcesOf (Machine.putOnLine p src octets s) q = sourcesOf s q := by
      rw [putOnLine_eq, sourcesOf_setPort]
      split
      · next hq => rw [lineTaken, markEntry_sources, hq]; rfl
      · rfl
    rw [claims_nil, hsame, ← claims_nil p₀, h.claimed]
    exact (SameFrames.due (.of_eq rfl rfl rfl rfl rfl) x q).symm
  · exact setPort_lines h.lines (lineAgrees_lineTaken octets (h.lines p) idle up (h.count_eq_one hmem))
  · have hsending := (h.sending q).resolve_left (by simp)
    by_cases hq : q = p
    · subst hq
      rw [idle] at hsending
      rw [putOnLine_eq, setPort_port_same]
      change alertSending s q = if some src = some .alert then 1 else 0
      rw [hsending, if_neg (by simp [lineOf]), if_neg (by simpa using hsrc)]
    · rw [putOnLine_eq, setPort_port_ne _ _ _ _ hq]
      exact hsending

/-- The alert's entry goes onto the line with one of its copies. -/
theorem Agrees.putAlertOnLine (h : Agrees p₀ [] s) {p : Port} {a : Alert} (hmem : .alert ∈ sourcesOf s p)
    (idle : (s.port p).egress = none) (up : (s.port p).link = true) (octets : List Byte)
    (alert : s.wru.alert = some a) {a' : Alert}
    (live : ∀ q, copyCount (AlertCopy.liveOn q) a' = copyCount (AlertCopy.liveOn q) a)
    (sending : ∀ q, copyCount (AlertCopy.sendingOn q) a' =
      copyCount (AlertCopy.sendingOn q) a + if q = p then 1 else 0) :
    Agrees p₀ [] (Machine.putOnLine p .alert octets { s with wru := { s.wru with alert := some a' } }) := by
  have hport (q : Port) : ({ s with wru := { s.wru with alert := some a' } } : State).port q = s.port q := rfl
  refine ⟨h.slots, fun x q => ?_, ?_, fun q => .inr ?_⟩
  · have hsame : sourcesOf (Machine.putOnLine p .alert octets
        { s with wru := { s.wru with alert := some a' } }) q = sourcesOf s q := by
      rw [putOnLine_eq, sourcesOf_setPort]
      split
      · next hq => rw [lineTaken, markEntry_sources, hq]; rfl
      · rfl
    rw [claims_nil, hsame, ← claims_nil p₀, h.claimed]
    by_cases hx : x = .alert
    · have hheld : alertHeld (Machine.putOnLine p .alert octets
          { s with wru := { s.wru with alert := some a' } }) q = copyCount (AlertCopy.liveOn q) a' :=
        alertHeld_eq (by rfl) q
      rw [due, due, if_pos hx, if_pos hx, alertHeld_eq alert, hheld, live]
    · have howner : ownerPort (Machine.putOnLine p .alert octets
          { s with wru := { s.wru with alert := some a' } }) x = ownerPort s x := by
        cases x <;> rfl
      rw [due, due, if_neg hx, if_neg hx, howner]
  · exact setPort_lines h.lines (lineAgrees_lineTaken octets (h.lines p) idle up (h.count_eq_one hmem))
  · have hsending := (h.sending q).resolve_left (by simp)
    rw [alertSending_eq alert] at hsending
    have hnow : alertSending (Machine.putOnLine p .alert octets
        { s with wru := { s.wru with alert := some a' } }) q = copyCount (AlertCopy.sendingOn q) a' :=
      alertSending_eq (by rfl) q
    rw [hnow, sending, hsending, putOnLine_eq]
    by_cases hq : q = p
    · subst hq
      rw [setPort_port_same, idle]
      simp [lineOf, lineTaken]
    · rw [setPort_port_ne _ _ _ _ hq, if_neg hq]
      rfl

/-- The counts of an alert whose QUEUED collector copy becomes SENDING. -/
theorem collector_sent {a : Alert} {p : Port} (h : a.collector.queuedOn p = true) (q : Port) :
    copyCount (AlertCopy.liveOn q) { a with collector := { a.collector with phase := .sending } } =
        copyCount (AlertCopy.liveOn q) a ∧
      copyCount (AlertCopy.sendingOn q) { a with collector := { a.collector with phase := .sending } } =
        copyCount (AlertCopy.sendingOn q) a + if q = p then 1 else 0 := by
  obtain ⟨⟨port, phase, octets⟩, manager, lastEnd⟩ := a
  simp only [AlertCopy.queuedOn, Bool.and_eq_true, beq_iff_eq] at h
  obtain ⟨rfl, rfl⟩ := h
  constructor
  · simp [copyCount, AlertCopy.liveOn, AlertCopy.live]
  · by_cases hq : q = port
    · simp [copyCount, AlertCopy.sendingOn, hq]
      omega
    · simp [copyCount, AlertCopy.sendingOn, hq, Ne.symm hq]

/-- The counts of an alert whose QUEUED manager copy becomes SENDING. -/
theorem manager_sent {a : Alert} {m : AlertCopy} (hm : a.manager = some m) {p : Port}
    (h : m.queuedOn p = true) (q : Port) :
    copyCount (AlertCopy.liveOn q) { a with manager := some { m with phase := .sending } } =
        copyCount (AlertCopy.liveOn q) a ∧
      copyCount (AlertCopy.sendingOn q) { a with manager := some { m with phase := .sending } } =
        copyCount (AlertCopy.sendingOn q) a + if q = p then 1 else 0 := by
  obtain ⟨collector, manager, lastEnd⟩ := a
  obtain ⟨port, phase, octets⟩ := m
  simp only at hm
  subst hm
  simp only [AlertCopy.queuedOn, Bool.and_eq_true, beq_iff_eq] at h
  obtain ⟨rfl, rfl⟩ := h
  constructor
  · simp [copyCount, AlertCopy.liveOn, AlertCopy.live]
  · by_cases hq : q = port
    · simp [copyCount, AlertCopy.sendingOn, hq]
    · simp [copyCount, AlertCopy.sendingOn, hq, Ne.symm hq]

theorem agrees_startAlert (h : Agrees p₀ [] s) {p : Port} (hmem : .alert ∈ sourcesOf s p)
    (idle : (s.port p).egress = none) (up : (s.port p).link = true) : Agrees p₀ [] (startAlert p s) := by
  unfold startAlert
  split
  · exact h
  · next a ha =>
    split
    · next hc =>
      exact h.putAlertOnLine hmem idle up _ ha (fun q => (collector_sent hc q).1)
        (fun q => (collector_sent hc q).2)
    split
    · exact h
    · next m hm =>
      split
      · next hq =>
        exact h.putAlertOnLine hmem idle up _ ha (fun q => (manager_sent hm hq q).1)
          (fun q => (manager_sent hm hq q).2)
      · exact h

theorem agrees_startAnswer (h : Agrees p₀ [] s) {p : Port} {n : Nat} (hmem : .slot n ∈ sourcesOf s p)
    (idle : (s.port p).egress = none) (up : (s.port p).link = true) : Agrees p₀ [] (startAnswer p n s) := by
  unfold startAnswer
  split
  · exact h
  · next ans hans =>
    have hline := h.putOnLine (by simp) hmem idle up
      (answerFrame ans (answerSendTime p ans s) s.rcu.epoch)
    refine hline.of_same ⟨?_, rfl, rfl, rfl, rfl⟩ (fun q => .refl _)
    refine map_modify_of_at fun sl hsl => ?_
    have hanswer : sl.answer = some ans := by
      have hslot : s.anu.slots[n]? = some sl := hsl
      simpa [List.getD_eq_getElem?_getD, hslot] using hans
    simp [slotOwner, hanswer]

theorem agrees_startEntry (h : Agrees p₀ [] s) {p : Port} {src : Source} (hmem : src ∈ sourcesOf s p)
    (idle : (s.port p).egress = none) (up : (s.port p).link = true) : Agrees p₀ [] (startEntry p src s) := by
  cases src with
  | slot n => exact agrees_startAnswer h hmem idle up
  | probe =>
    simp only [startEntry, startProbe]
    split
    · exact h
    · refine (h.putOnLine (by simp) hmem idle up _).of_same ⟨rfl, rfl, rfl, rfl, rfl⟩ (fun q => .refl _)
  | response =>
    simp only [startEntry, startResponse]
    split
    · exact h
    · exact h.putOnLine (by simp) hmem idle up _
  | alert => exact agrees_startAlert h hmem idle up
  | report =>
    have hrpe : Agrees p₀ [] { s with rpe := { s.rpe with
        inFlight := s.rpe.inFlight.map fun r => { r with sending := true } } } :=
      h.of_same ⟨rfl, rfl, rfl, by simp only [Option.map_map]; rfl, rfl⟩ (fun q => .refl _)
    exact hrpe.putOnLine (by simp) hmem idle up _

theorem lineAgrees_of_up {e e' : Egm} (h : LineAgrees e) (up : e'.link = true) (queue : e'.queue = e.queue)
    (owner : (lineOf e'.egress).join = (lineOf e.egress).join) : LineAgrees e' :=
  ⟨by rw [queue, h.line, owner], fun hdown => by simp [up] at hdown⟩

theorem agrees_startPass (h : Agrees p₀ [] s) {p : Port} (idle : (s.port p).egress = none)
    (up : (s.port p).link = true) : Agrees p₀ [] (startPass p s) := by
  have hpass (u : State) (hu : Agrees p₀ [] u) (hidle : (u.port p).egress = none)
      (hup : (u.port p).link = true) (r : Option (BitVec 48)) :
      Agrees p₀ [] (u.setPort p { u.port p with egress := some (.pass r 1) }) :=
    hu.setPort rfl (lineAgrees_of_up (hu.lines p) hup rfl (by rw [hidle]; rfl)) (by rw [hidle]; rfl)
  unfold startPass
  split
  · exact h
  · split
    · exact hpass s h idle up none
    · dsimp only
      split
      · exact hpass _ (h.effects_nil (countEgress_effects ..)) (by simpa [State.countEgress] using idle)
          (by simpa [State.countEgress] using up) _
      · exact hpass s h idle up _

theorem agrees_takeBoundary (h : Agrees p₀ [] s) {p : Port} (idle : (s.port p).egress = none)
    (up : (s.port p).link = true) : Agrees p₀ [] (takeBoundary p s) := by
  unfold takeBoundary
  split
  · exact h
  · exact agrees_startPass h idle up
  · next src hsrc => exact agrees_startEntry h (choose_mem hsrc) idle up

end Sys2Proof.Proofs
end

section
/-! SUPPORT. The egress end, the loss of a link, a query and a management frame keep the origination queues in
agreement with their owners; the settled statement of the queues. -/

namespace Sys2Proof.Proofs

open Sys2Proof Sys2Proof.Machine Sys2Proof.Safety

variable {p₀ : Port} {owed : List Source} {s t : State}

/-! ### An owner gives up its frame -/

/-- An owner gives up its frame as its one entry goes. -/
theorem Agrees.release {p₁ : Port} {owed' : List Source} (h : Agrees p₀ owed s) {src : Source}
    (hsrc : src ≠ .alert) (gone : ownerPort t src = none)
    (others : ∀ x, x ≠ src → ownerPort t x = ownerPort s x)
    (slots : t.anu.slots.length = s.anu.slots.length) (alert : t.wru.alert = s.wru.alert)
    (claimed : ∀ x q, (claims p₁ owed' t q).count x = if x = src then 0 else (claims p₀ owed s q).count x)
    (lines : ∀ q, LineAgrees (t.port q))
    (sending : ∀ q, (q = p₁ ∧ .alert ∈ owed') ∨
      alertSending t q = if (lineOf (t.port q).egress).join = some .alert then 1 else 0) :
    Agrees p₁ owed' t := by
  refine ⟨by rw [slots, h.slots], fun x q => ?_, lines, sending⟩
  rw [claimed]
  by_cases hx : x = src
  · rw [if_pos hx, hx, due, if_neg hsrc, gone, if_neg (by simp)]
  · rw [if_neg hx, h.claimed, due, due, others x hx, alertHeld, alertHeld, alert]

/-! ### Egress end -/

theorem count_leaveQueue {q : List QueueEntry} {src : Source}
    (h : (q.filter QueueEntry.inEgress).map QueueEntry.source = [src]) (x : Source) :
    (q.map QueueEntry.source).count x =
      ((leaveQueue false q).map QueueEntry.source).count x + if x = src then 1 else 0 := by
  have hin : ((q.filter QueueEntry.inEgress).map QueueEntry.source).count x = if x = src then 1 else 0 := by
    rw [h]
    by_cases hx : x = src
    · simp [hx]
    · simp [hx, Ne.symm hx]
  rw [← hin]
  simp only [List.count, List.countP_map, leaveQueue, Bool.false_eq_true, if_false]
  rw [List.countP_eq_countP_filter_add q _ QueueEntry.inEgress, Nat.add_comm]

/-- What stands in the queue of a port with an originated frame in egress. -/
theorem LineAgrees.own {e : Egm} (h : LineAgrees e) {src : Source} {octets : List Byte} {n : Nat}
    (hegress : e.egress = some (.own src octets n)) :
    (e.queue.filter QueueEntry.inEgress).map QueueEntry.source = [src] ∧ e.link = true := by
  refine ⟨by rw [h.line, hegress]; rfl, Bool.not_eq_false _ ▸ fun hdown => ?_⟩
  rw [(h.down hdown).2] at hegress
  cases hegress

theorem lineAgrees_endOwn {e : Egm} (up : e.link = true) (octets : List Byte) (stays : Bool) :
    LineAgrees (e.endOwn octets stays) := by
  refine ⟨?_, fun hdown => ?_⟩
  · have hnone : (leaveQueue stays e.queue).filter QueueEntry.inEgress = [] := by
      cases stays with
      | true => simp [leaveQueue, List.filter_map, Function.comp_def]
      | false => simp [leaveQueue, List.filter_filter]
    change ((leaveQueue stays e.queue).filter QueueEntry.inEgress).map QueueEntry.source = []
    rw [hnone]
    rfl
  · change e.link = false at hdown
    rw [up] at hdown
    cases hdown

/-- The state in which an originated frame has left and its owner, not the alert's, holds no frame. -/
theorem Agrees.endOwn (h : Agrees p₀ [] s) {p : Port} {src : Source} {octets : List Byte} {n : Nat}
    (hegress : (s.port p).egress = some (.own src octets n)) (hsrc : src ≠ .alert)
    (egm : ∀ q, t.port q = (s.setPort p ((s.port p).endOwn octets false)).port q)
    (gone : ownerPort t src = none) (others : ∀ x, x ≠ src → ownerPort t x = ownerPort s x)
    (slots : t.anu.slots.length = s.anu.slots.length) (alert : t.wru.alert = s.wru.alert) :
    Agrees p₀ [] t := by
  obtain ⟨hline, hup⟩ := (h.lines p).own hegress
  have hmem : src ∈ sourcesOf s p := by
    have : src ∈ ((s.port p).queue.filter QueueEntry.inEgress).map QueueEntry.source := by simp [hline]
    obtain ⟨e, he, hsource⟩ := List.mem_map.mp this
    exact List.mem_map.mpr ⟨e, (List.mem_filter.mp he).1, hsource⟩
  have honce := h.count_eq_one hmem
  have hsources (q : Port) : sourcesOf t q = if q = p then
      (leaveQueue false (s.port p).queue).map QueueEntry.source else sourcesOf s q := by
    rw [sourcesOf, egm, ← sourcesOf, sourcesOf_setPort]
    rfl
  refine h.release hsrc gone others slots alert (fun x q => ?_) (fun q => ?_) (fun q => .inr ?_)
  · rw [claims_nil, claims_nil, hsources]
    have hcount := count_leaveQueue hline x
    by_cases hq : q = p
    · subst hq
      rw [if_pos rfl]
      by_cases hx : x = src
      · subst hx
        rw [sourcesOf] at honce
        rw [if_pos rfl] at hcount ⊢
        omega
      · rw [if_neg hx] at hcount ⊢
        rw [sourcesOf]
        omega
    · rw [if_neg hq]
      by_cases hx : x = src
      · subst hx
        rw [if_pos rfl]
        have hp := h.claimed x p
        have hother := h.claimed x q
        rw [claims_nil, due, if_neg hsrc] at hp hother
        rw [hother]
        rw [honce] at hp
        split at hp
        · next hon => rw [hon, if_neg (by simpa using Ne.symm hq)]
        · omega
      · rw [if_neg hx]
  · rw [egm]
    exact setPort_lines h.lines (lineAgrees_endOwn hup octets false) q
  · have hsending := (h.sending q).resolve_left (by simp)
    rw [alertSending, alert, ← alertSending, hsending, egm]
    by_cases hq : q = p
    · subst hq
      rw [setPort_port_same, hegress]
      simp [lineOf, Egm.endOwn, hsrc]
    · rw [setPort_port_ne _ _ _ _ hq]

/-- A part whose owners hold no frame and whose ports queue and send nothing agrees. -/
theorem agrees_of_empty (slots : s.anu.slots = List.replicate 8 {}) (frame : s.dse.frame = none)
    (response : s.mgu.response = none) (inFlight : s.rpe.inFlight = none) (alert : s.wru.alert = none)
    (ports : ∀ p, (s.port p).queue = [] ∧ (s.port p).egress = none) : Agrees p₀ [] s := by
  refine ⟨by simp [slots], fun x q => ?_, fun q => ?_, fun q => .inr ?_⟩
  · have howner : ownerPort s x = none := by
      cases x with
      | slot n =>
        rw [ownerPort, slotPort_eq, slots, List.map_replicate, List.getD_eq_getElem?_getD,
          List.getElem?_replicate]
        split <;> rfl
      | probe => simp [ownerPort, frame]
      | response => simp [ownerPort, response]
      | report => simp [ownerPort, inFlight]
      | alert => rfl
    rw [claims_nil, sourcesOf, (ports q).1, due, howner, alertHeld, alert]
    simp
  · exact ⟨by rw [(ports q).1, (ports q).2]; rfl, fun _ => ports q⟩
  · rw [alertSending, alert, (ports q).2]
    rfl

theorem agrees_softReset (p₀ : Port) (s : State) : Agrees p₀ [] (softReset s) :=
  agrees_of_empty rfl rfl rfl rfl rfl fun p => by cases p <;> exact ⟨rfl, rfl⟩

theorem agrees_hardReset (p₀ : Port) (s : State) : Agrees p₀ [] (hardReset s) :=
  agrees_of_empty rfl rfl rfl rfl rfl fun p => by cases p <;> exact ⟨rfl, rfl⟩

theorem slotPort_freeSlot {f : Slot → Slot} (hf : ∀ sl, (f sl).answer = sl.answer) (n : Nat) (s : State)
    (m : Nat) : slotPort (freeSlot n f s) m = if m = n then none else slotPort s m := by
  simp only [slotPort, freeSlot, List.getD_eq_getElem?_getD, List.getElem?_modify]
  by_cases hm : n = m
  · subst hm
    cases s.anu.slots[n]? with
    | none => simp
    | some sl => simp [hf]
  · simp [hm, Ne.symm hm]

theorem ownerPort_freeSlot {f : Slot → Slot} (hf : ∀ sl, (f sl).answer = sl.answer) (n : Nat) (s : State)
    (x : Source) : ownerPort (freeSlot n f s) x = if x = .slot n then none else ownerPort s x := by
  cases x with
  | slot m => simp [ownerPort, slotPort_freeSlot hf]
  | _ => simp [ownerPort, freeSlot]

/-! ### The end of an alert copy -/

theorem collector_ended {a : Alert} {p : Port} (h : a.collector.sendingOn p = true) (now : Option Uptime)
    (q : Port) :
    copyCount (AlertCopy.liveOn q) { a with collector := { a.collector with phase := .ended }, lastEnd := now } +
        (if q = p then 1 else 0) = copyCount (AlertCopy.liveOn q) a ∧
      copyCount (AlertCopy.sendingOn q) { a with collector := { a.collector with phase := .ended }, lastEnd := now } +
        (if q = p then 1 else 0) = copyCount (AlertCopy.sendingOn q) a := by
  obtain ⟨⟨port, phase, octets⟩, manager, lastEnd⟩ := a
  simp only [AlertCopy.sendingOn, Bool.and_eq_true, beq_iff_eq] at h
  obtain ⟨rfl, rfl⟩ := h
  by_cases hq : q = port
  · simp [copyCount, AlertCopy.liveOn, AlertCopy.live, AlertCopy.sendingOn, hq]
    omega
  · simp [copyCount, AlertCopy.liveOn, AlertCopy.live, AlertCopy.sendingOn, hq, Ne.symm hq]

theorem manager_ended {a : Alert} {m : AlertCopy} (hm : a.manager = some m) {p : Port}
    (h : m.sendingOn p = true) (now : Option Uptime) (q : Port) :
    copyCount (AlertCopy.liveOn q) { a with manager := some { m with phase := .ended }, lastEnd := now } +
        (if q = p then 1 else 0) = copyCount (AlertCopy.liveOn q) a ∧
      copyCount (AlertCopy.sendingOn q) { a with manager := some { m with phase := .ended }, lastEnd := now } +
        (if q = p then 1 else 0) = copyCount (AlertCopy.sendingOn q) a := by
  obtain ⟨collector, manager, lastEnd⟩ := a
  obtain ⟨port, phase, octets⟩ := m
  simp only at hm
  subst hm
  simp only [AlertCopy.sendingOn, Bool.and_eq_true, beq_iff_eq] at h
  obtain ⟨rfl, rfl⟩ := h
  by_cases hq : q = port
  · simp [copyCount, AlertCopy.liveOn, AlertCopy.live, AlertCopy.sendingOn, hq]
  · simp [copyCount, AlertCopy.liveOn, AlertCopy.live, AlertCopy.sendingOn, hq, Ne.symm hq]

/-- The copy that ends is neither live nor SENDING any more. -/
theorem alertEnded_counts {a : Alert} {p : Port} (ha : s.wru.alert = some a)
    (hsending : 0 < copyCount (AlertCopy.sendingOn p) a) (q : Port) :
    alertHeld (alertEnded p s) q + (if q = p then 1 else 0) = copyCount (AlertCopy.liveOn q) a ∧
      alertSending (alertEnded p s) q + (if q = p then 1 else 0) = copyCount (AlertCopy.sendingOn q) a := by
  unfold alertEnded
  rw [ha]
  dsimp only
  split
  · next hc =>
    rw [(settleAlert_counts ..).1, (settleAlert_counts ..).2]
    exact collector_ended hc _ q
  · next hc =>
    cases hm : a.manager with
    | none => simp [copyCount, hc, hm] at hsending
    | some m =>
      dsimp only
      split
      · next hs =>
        rw [(settleAlert_counts ..).1, (settleAlert_counts ..).2]
        exact manager_ended hm hs _ q
      · next hs => simp [copyCount, hc, hm, hs] at hsending

theorem ownerPort_of_frames (anu : t.anu = s.anu) (frame : t.dse.frame = s.dse.frame) (mgu : t.mgu = s.mgu)
    (inFlight : t.rpe.inFlight = s.rpe.inFlight) (x : Source) : ownerPort t x = ownerPort s x := by
  cases x <;> simp [ownerPort, slotPort, anu, frame, mgu, inFlight]

theorem sources_leaveQueue_true (q : List QueueEntry) :
    (leaveQueue true q).map QueueEntry.source = q.map QueueEntry.source := by
  simp [leaveQueue, Function.comp_def]

theorem agrees_endAlert (h : Agrees p₀ [] s) {p : Port} {octets : List Byte} {n : Nat}
    (hegress : (s.port p).egress = some (.own .alert octets n)) :
    Agrees p₀ [] (alertEnded p (s.setPort p ((s.port p).endOwn octets (alertQueuedOn p s)))) := by
  obtain ⟨hline, hup⟩ := (h.lines p).own hegress
  have hsent := (h.sending p).resolve_left (by simp)
  rw [hegress] at hsent
  simp only [lineOf, Option.join_some, if_true] at hsent
  obtain ⟨a, ha⟩ : ∃ a, s.wru.alert = some a := by
    cases hnone : s.wru.alert with
    | none =>
      rw [alertSending, hnone] at hsent
      cases hsent
    | some a => exact ⟨a, rfl⟩
  generalize hu : s.setPort p ((s.port p).endOwn octets (alertQueuedOn p s)) = u
  have hua : u.wru.alert = some a := by rw [← hu]; exact ha
  rw [alertSending_eq ha] at hsent
  have hcounts := alertEnded_counts hua (p := p) (by omega)
  have hframe := alertEnded_frame u p
  have hsources (q : Port) : sourcesOf (alertEnded p u) q = if q = p then
      (leaveQueue (alertQueuedOn p s) (s.port p).queue).map QueueEntry.source else sourcesOf s q := by
    rw [sourcesOf, State.port, hframe.2.2.2.2.2.2.2.2.1, ← State.port, ← sourcesOf, ← hu, sourcesOf_setPort]
    rfl
  have hegm (q : Port) : (alertEnded p u).port q =
      (s.setPort p ((s.port p).endOwn octets (alertQueuedOn p s))).port q := by
    rw [State.port, hframe.2.2.2.2.2.2.2.2.1, ← State.port, hu]
  have hqueued := copyCount_queued_pos ha p
  have hlive := copyCount_live p a
  have hclaimed (x : Source) (q : Port) : (sourcesOf s q).count x = due s x q := by
    rw [← claims_nil p₀, h.claimed]
  refine ⟨by rw [hframe.2.2.2.1, ← hu]; exact h.slots, fun x q => ?_, fun q => ?_, fun q => .inr ?_⟩
  · rw [claims_nil, hsources]
    have hleave := count_leaveQueue hline x
    have hold := hclaimed x p
    rw [sourcesOf, due] at hold
    by_cases hx : x = .alert
    · subst hx
      rw [if_pos rfl] at hleave hold
      rw [alertHeld_eq ha] at hold
      rw [due, if_pos rfl]
      obtain ⟨hheld, _⟩ := hcounts q
      by_cases hq : q = p
      · subst hq
        rw [if_pos rfl] at hheld ⊢
        cases hstays : alertQueuedOn q s with
        | true =>
          rw [sources_leaveQueue_true, hold]
          have := hqueued.mp hstays
          omega
        | false =>
          have : ¬ 0 < copyCount (AlertCopy.queuedOn q) a := fun hpos => by
            rw [hqueued.mpr hpos] at hstays
            cases hstays
          omega
      · rw [if_neg hq, hclaimed, due, if_pos rfl, alertHeld_eq ha]
        rw [if_neg hq] at hheld
        omega
    · have howner : ownerPort (alertEnded p u) x = ownerPort s x := by
        rw [ownerPort_of_frames hframe.2.2.2.1 (by rw [hframe.2.1]) hframe.2.2.2.2.2.2.2.2.2.1
          (by rw [hframe.2.2.2.2.2.2.2.1]), ← hu]
        exact ownerPort_of_frames rfl rfl rfl rfl x
      rw [if_neg hx] at hleave
      have hsame : due (alertEnded p u) x q = due s x q := by rw [due, due, if_neg hx, if_neg hx, howner]
      rw [hsame, ← hclaimed]
      by_cases hq : q = p
      · rw [if_pos hq, hq]
        cases alertQueuedOn p s with
        | true => rw [sources_leaveQueue_true, sourcesOf]
        | false =>
          rw [sourcesOf]
          omega
      · rw [if_neg hq]
  · rw [hegm]
    exact setPort_lines h.lines (lineAgrees_endOwn hup octets _) q
  · obtain ⟨_, hended⟩ := hcounts q
    have hbefore := (h.sending q).resolve_left (by simp)
    rw [alertSending_eq ha] at hbefore
    rw [hegm]
    by_cases hq : q = p
    · subst hq
      rw [setPort_port_same]
      rw [if_pos rfl] at hended
      simp only [Egm.endOwn, lineOf, Option.join_none, reduceCtorEq, if_false]
      omega
    · rw [setPort_port_ne _ _ _ _ hq, ← hbefore]
      rw [if_neg hq] at hended
      omega

/-! ### Every egress end -/

theorem responseEnded_cases (s : State) : (∃ u, responseEnded s = softReset u) ∨
    responseEnded s = { s with mgu := { s.mgu with
      response := none, ctr := { s.mgu.ctr with responsesSent := bump s.mgu.ctr.responsesSent } } } := by
  unfold responseEnded
  extract_lets resets m c u
  split
  · exact .inl ⟨u, rfl⟩
  · exact .inr rfl

theorem agrees_endOwn (h : Agrees p₀ [] s) {p : Port} {src : Source} {octets : List Byte} {n : Nat}
    (hegress : (s.port p).egress = some (.own src octets n)) : Agrees p₀ [] (endOwn p src octets s) := by
  cases src with
  | slot m =>
    refine h.endOwn hegress (by simp) (fun q => rfl) ?_ (fun x hx => ?_) (List.length_modify ..) rfl
    · exact (ownerPort_freeSlot (f := fun sl => { sl with sent := bump sl.sent }) (fun _ => rfl) m _ _).trans
        (if_pos rfl)
    · exact (ownerPort_freeSlot (f := fun sl => { sl with sent := bump sl.sent }) (fun _ => rfl) m _ _).trans
        (if_neg hx)
  | probe =>
    refine (h.endOwn hegress (t := forgetProbe (s.setPort p ((s.port p).endOwn octets false))) (by simp)
      (fun q => rfl) rfl (fun x hx => ?_) rfl rfl).effects_nil (probeEnded_effects _)
    cases x with
    | probe => exact absurd rfl hx
    | _ => rfl
  | response =>
    change Agrees p₀ [] (responseEnded (s.setPort p ((s.port p).endOwn octets false)))
    rcases responseEnded_cases (s.setPort p ((s.port p).endOwn octets false)) with ⟨u, hu⟩ | hu
    · rw [hu]
      exact agrees_softReset p₀ u
    · rw [hu]
      refine h.endOwn hegress (by simp) (fun q => rfl) rfl (fun x hx => ?_) rfl rfl
      cases x with
      | response => exact absurd rfl hx
      | _ => rfl
  | alert => exact agrees_endAlert h hegress
  | report =>
    refine (h.endOwn hegress (t := deliverReport (s.setPort p ((s.port p).endOwn octets false))) (by simp)
      (fun q => rfl) rfl (fun x hx => ?_) rfl rfl).effects_nil (reportEnded_effects _)
    cases x with
    | report => exact absurd rfl hx
    | _ => rfl

theorem agrees_endPass (h : Agrees p₀ [] s) {p : Port} {f : PassFrame} {r : Option (BitVec 48)} {n : Nat}
    (hegress : (s.port p).egress = some (.pass r n)) : Agrees p₀ [] (endPass p f r s) := by
  have howner : (lineOf (s.port p).egress).join = none := by rw [hegress]; rfl
  refine h.setPort rfl ⟨?_, fun hdown => ⟨((h.lines p).down hdown).1, rfl⟩⟩ howner.symm
  have hline := (h.lines p).line
  rwa [howner] at hline

theorem agrees_takeEgressEnd (h : Agrees p₀ [] s) (p : Port) : Agrees p₀ [] (takeEgressEnd p s) := by
  unfold takeEgressEnd
  split
  · exact h
  · next hegress => exact agrees_endOwn h hegress
  · next hegress =>
    split
    · exact h
    · split
      · exact h
      · exact agrees_endPass h hegress

end Sys2Proof.Proofs
end

section
/-! SUPPORT. The loss and the rise of a link, a query and a management frame keep the origination queues in
agreement with their owners; the settled statement of the queues. -/

namespace Sys2Proof.Proofs

open Sys2Proof Sys2Proof.Machine Sys2Proof.Safety

variable {p₀ : Port} {owed : List Source} {s t : State}

/-! ### The drop of an entry -/

/-- A source owed to a port stands nowhere else. -/
theorem Agrees.count_of_owed {src : Source} (h : Agrees p₀ (src :: owed) s) :
    (sourcesOf s p₀).count src = 0 ∧ owed.count src = 0 ∧ due s src p₀ = 1 := by
  have hclaimed := h.claimed src p₀
  rw [claims, if_pos rfl, List.count_append, List.count_cons_self] at hclaimed
  have hle : due s src p₀ ≤ 1 := by
    unfold due
    split
    · omega
    · split <;> omega
  omega

theorem Agrees.not_mem_of_owed {src : Source} (h : Agrees p₀ (src :: owed) s) : src ∉ owed :=
  List.count_eq_zero.mp h.count_of_owed.2.1

/-- What is claimed once an owed source is told of. -/
theorem Agrees.count_tail {src : Source} (h : Agrees p₀ (src :: owed) s) (hsrc : src ≠ .alert) (x : Source)
    (q : Port) : (claims p₀ owed s q).count x =
      if x = src then 0 else (claims p₀ (src :: owed) s q).count x := by
  obtain ⟨hqueue, howed, hdue⟩ := h.count_of_owed
  by_cases hx : x = src
  · subst hx
    rw [if_pos rfl, claims, List.count_append]
    by_cases hq : q = p₀
    · rw [if_pos hq, hq, hqueue, howed]
    · have hother := h.claimed x q
      rw [claims, if_neg hq, List.append_nil, due, if_neg hsrc] at hother
      rw [due, if_neg hsrc] at hdue
      rw [if_neg hq, hother]
      split at hdue
      · next hon => simp [hon, Ne.symm hq]
      · omega
  · rw [if_neg hx, claims, claims, List.count_append, List.count_append]
    by_cases hq : q = p₀
    · rw [if_pos hq, if_pos hq, List.count_cons_of_ne (Ne.symm hx)]
    · rw [if_neg hq, if_neg hq]

/-- An owner other than the alert's is told that its frame was dropped. -/
theorem Agrees.drop {src : Source} (h : Agrees p₀ (src :: owed) s) (hsrc : src ≠ .alert)
    (gone : ownerPort t src = none) (others : ∀ x, x ≠ src → ownerPort t x = ownerPort s x)
    (slots : t.anu.slots.length = s.anu.slots.length) (alert : t.wru.alert = s.wru.alert)
    (egm : t.egm = s.egm) : Agrees p₀ owed t := by
  have hport (q : Port) : t.port q = s.port q := by rw [State.port, State.port, egm]
  have hclaims (q : Port) : claims p₀ owed t q = claims p₀ owed s q := by
    rw [claims, claims, sourcesOf, sourcesOf, hport]
  refine h.release hsrc gone others slots alert (fun x q => ?_) (fun q => ?_) (fun q => ?_)
  · rw [hclaims]
    exact h.count_tail hsrc x q
  · rw [hport]
    exact h.lines q
  · rw [hport, alertSending, alert, ← alertSending]
    rcases h.sending q with ⟨hq, hmem⟩ | hsending
    · exact .inl ⟨hq, (List.mem_cons.mp hmem).resolve_left (Ne.symm hsrc)⟩
    · exact .inr hsending

theorem copyCount_dropOn (a : Alert) (p q : Port) :
    copyCount (AlertCopy.liveOn q) { a with
        collector := a.collector.dropOn p, manager := a.manager.map (AlertCopy.dropOn p) } =
      (if q = p then 0 else copyCount (AlertCopy.liveOn q) a) ∧
    copyCount (AlertCopy.sendingOn q) { a with
        collector := a.collector.dropOn p, manager := a.manager.map (AlertCopy.dropOn p) } =
      (if q = p then 0 else copyCount (AlertCopy.sendingOn q) a) := by
  have hcopy (c : AlertCopy) : (c.dropOn p).liveOn q = (if q = p then false else c.liveOn q) ∧
      (c.dropOn p).sendingOn q = if q = p then false else c.sendingOn q := by
    obtain ⟨port, phase, octets⟩ := c
    by_cases hp : port = p
    · subst hp
      by_cases hq : q = port
      · subst hq
        cases phase <;> simp [AlertCopy.dropOn, AlertCopy.liveOn, AlertCopy.live, AlertCopy.sendingOn]
      · have hne : (port == q) = false := by simpa using Ne.symm hq
        cases phase <;>
          simp [AlertCopy.dropOn, AlertCopy.liveOn, AlertCopy.live, AlertCopy.sendingOn, hq, hne]
    · by_cases hq : q = p
      · subst hq
        simp [AlertCopy.dropOn, AlertCopy.liveOn, AlertCopy.sendingOn, hp]
      · simp [AlertCopy.dropOn, AlertCopy.liveOn, AlertCopy.sendingOn, hp, hq]
  obtain ⟨collector, manager, lastEnd⟩ := a
  unfold copyCount
  by_cases hq : q = p
  · subst hq
    cases manager <;> simp [hcopy]
  · cases manager <;> simp [hcopy, hq]

theorem alertDropped_counts {a : Alert} (ha : s.wru.alert = some a) (p q : Port) :
    alertHeld (alertDropped p s) q = (if q = p then 0 else copyCount (AlertCopy.liveOn q) a) ∧
      alertSending (alertDropped p s) q = if q = p then 0 else copyCount (AlertCopy.sendingOn q) a := by
  unfold alertDropped
  rw [ha]
  dsimp only
  rw [(settleAlert_counts ..).1, (settleAlert_counts ..).2]
  exact copyCount_dropOn a p q

theorem agrees_alertDropped (h : Agrees p₀ (.alert :: owed) s) : Agrees p₀ owed (alertDropped p₀ s) := by
  obtain ⟨hqueue, howed, hdue⟩ := h.count_of_owed
  obtain ⟨a, ha⟩ : ∃ a, s.wru.alert = some a := by
    cases hnone : s.wru.alert with
    | none => simp [due, alertHeld, hnone] at hdue
    | some a => exact ⟨a, rfl⟩
  have hframe := alertDropped_frame s p₀
  have hport (q : Port) : (alertDropped p₀ s).port q = s.port q := by
    rw [State.port, State.port, hframe.2.2.2.2.2.2.2.2.1]
  refine ⟨by rw [hframe.2.2.2.1, h.slots], fun x q => ?_, fun q => ?_, fun q => .inr ?_⟩
  · have hclaimed := h.claimed x q
    rw [claims, List.count_append, sourcesOf, hport, ← sourcesOf]
    rw [claims, List.count_append] at hclaimed
    by_cases hx : x = .alert
    · subst hx
      rw [due, if_pos rfl, (alertDropped_counts ha p₀ q).1]
      by_cases hq : q = p₀
      · subst hq
        rw [if_pos rfl, if_pos rfl, hqueue, howed]
        rfl
      · rw [if_neg hq, due, if_pos rfl, alertHeld_eq ha] at hclaimed
        rw [if_neg hq, if_neg hq, hclaimed]
    · have howner : ownerPort (alertDropped p₀ s) x = ownerPort s x :=
        ownerPort_of_frames hframe.2.2.2.1 (by rw [hframe.2.1]) hframe.2.2.2.2.2.2.2.2.2.1
          (by rw [hframe.2.2.2.2.2.2.2.1]) x
      rw [due, if_neg hx] at hclaimed ⊢
      rw [howner, ← hclaimed]
      by_cases hq : q = p₀
      · rw [if_pos hq, if_pos hq, List.count_cons_of_ne (Ne.symm hx)]
      · rw [if_neg hq, if_neg hq]
  · rw [hport]
    exact h.lines q
  · rw [hport, (alertDropped_counts ha p₀ q).2]
    by_cases hq : q = p₀
    · subst hq
      rw [if_pos rfl, if_neg]
      intro hown
      have hline := (h.lines q).line
      rw [hown] at hline
      have hmem : .alert ∈ ((s.port q).queue.filter QueueEntry.inEgress).map QueueEntry.source := by
        simp [hline]
      obtain ⟨e, he, hsource⟩ := List.mem_map.mp hmem
      exact List.count_eq_zero.mp hqueue (List.mem_map.mpr ⟨e, (List.mem_filter.mp he).1, hsource⟩)
    · rw [if_neg hq, ← alertSending_eq ha]
      exact (h.sending q).resolve_left fun hand => hq hand.1

theorem agrees_reportDropped (h : Agrees p₀ (.report :: owed) s) : Agrees p₀ owed (reportDropped s) := by
  have hframe := reportDropped_frame s
  have hnone : (reportDropped s).rpe.inFlight = none := by
    unfold reportDropped deferredFlush
    dsimp only
    split <;> simp [clearReport]
  refine h.drop (by simp) (by simp [ownerPort, hnone]) (fun x hx => ?_) (by rw [hframe.2.2.2.1])
    (by rw [hframe.2.2.2.2.2.1]) hframe.2.2.2.2.2.2.2.1
  cases x with
  | report => exact absurd rfl hx
  | _ => simp [ownerPort, slotPort]

theorem agrees_ownerDropped {src : Source} (h : Agrees p₀ (src :: owed) s) :
    Agrees p₀ owed (ownerDropped p₀ src s) := by
  cases src with
  | slot n =>
    refine h.drop (by simp) ?_ (fun x hx => ?_) (List.length_modify ..) rfl rfl
    · exact (ownerPort_freeSlot (f := fun sl => { sl with dropped := bump sl.dropped }) (fun _ => rfl) n s _).trans
        (if_pos rfl)
    · exact (ownerPort_freeSlot (f := fun sl => { sl with dropped := bump sl.dropped }) (fun _ => rfl) n s x).trans
        (if_neg hx)
  | probe =>
    refine (h.drop (t := forgetProbe s) (by simp) rfl (fun x hx => ?_) rfl rfl rfl).effects
      (probeDropped_effects s) h.not_mem_of_owed
    cases x with
    | probe => exact absurd rfl hx
    | _ => rfl
  | response =>
    refine h.drop (by simp) rfl (fun x hx => ?_) rfl rfl rfl
    cases x with
    | response => exact absurd rfl hx
    | _ => rfl
  | alert => exact agrees_alertDropped h
  | report => exact agrees_reportDropped h

theorem countEgress_lines (p : Port) (f : EgmCounters → EgmCounters) (s : State) (q : Port) :
    SameLine (s.port q) ((s.countEgress p f).port q) :=
  (sameOwners_setPort (e := { s.port p with ctr := f (s.port p).ctr }) ⟨rfl, rfl, rfl⟩).ports q

/-- The owners of the entries that a lost link has dropped are told one after another. -/
theorem agrees_dropEntries (l : List QueueEntry) (h : Agrees p₀ (l.map QueueEntry.source) s) :
    Agrees p₀ [] (l.foldl (dropEntry p₀) s) := by
  induction l generalizing s with
  | nil => exact h
  | cons e l ih =>
    exact ih (agrees_ownerDropped (src := e.source)
      (h.of_same (.of_eq rfl rfl rfl rfl rfl) (countEgress_lines _ _ _)))

/-! ### The loss and the rise of a link -/

theorem agrees_lose (h : Agrees p₀ [] s) (p : Port) :
    Agrees p (sourcesOf s p) (s.setPort p (s.port p).lose) := by
  refine ⟨h.slots, fun x q => ?_, setPort_lines h.lines ⟨rfl, fun _ => ⟨rfl, rfl⟩⟩, fun q => ?_⟩
  · have hsame : claims p (sourcesOf s p) (s.setPort p (s.port p).lose) q = claims p₀ [] s q := by
      rw [claims_nil, claims, sourcesOf_setPort]
      by_cases hq : q = p
      · rw [if_pos hq, if_pos hq, hq]
        rfl
      · rw [if_neg hq, if_neg hq, List.append_nil]
    rw [hsame, h.claimed]
    exact (SameFrames.due (.of_eq rfl rfl rfl rfl rfl) x q).symm
  · have hsending := (h.sending q).resolve_left (by simp)
    by_cases hq : q = p
    · subst hq
      rw [setPort_port_same]
      by_cases hown : (lineOf (s.port q).egress).join = some .alert
      · have hline := (h.lines q).line
        rw [hown] at hline
        have hmem : .alert ∈ ((s.port q).queue.filter QueueEntry.inEgress).map QueueEntry.source := by
          simp [hline]
        obtain ⟨e, he, hsource⟩ := List.mem_map.mp hmem
        exact .inl ⟨rfl, List.mem_map.mpr ⟨e, (List.mem_filter.mp he).1, hsource⟩⟩
      · rw [if_neg hown] at hsending
        exact .inr hsending
    · rw [setPort_port_ne _ _ _ _ hq]
      exact .inr hsending

theorem agrees_loseLink (h : Agrees p₀ [] s) (p : Port) : Agrees p [] (loseLink p s) := by
  have hbad : Agrees p₀ [] (endsBad p .stopped s) := h.effects_nil (endsBad_effects ..)
  refine agrees_dropEntries _ ((agrees_lose hbad p).of_same (.of_eq rfl rfl rfl rfl rfl) ?_)
  exact fun q => .refl _

theorem agrees_raiseLink (h : Agrees p₀ [] s) (p : Port) : Agrees p₀ [] (raiseLink p s) := by
  have hup : Agrees p₀ [] (s.setPort p { s.port p with link := true }) :=
    h.setPort rfl (lineAgrees_of_up (h.lines p) rfl rfl rfl) rfl
  exact hup.effects_nil (raised_effects p s)

/-! ### A query -/

/-- The walk claims a FREE slot among the eight. -/
theorem walkQuery_claim {masks : List (BitVec 32)} {busy : Nat → Bool} {key : BitVec 32} {fs : List Filter}
    {i : Nat} {passed : Option Nat} {j n : Nat} (h : walkQuery masks busy key fs i passed = .claim j n) :
    busy n = false ∧ n < 8 := by
  induction fs generalizing i passed with
  | nil => cases passed <;> cases h
  | cons f fs ih =>
    rw [walkQuery] at h
    split at h
    · split at h
      · cases h
      · split at h
        · exact ih h
        · next hfree =>
          cases h
          exact ⟨Bool.eq_false_iff.mpr hfree, f.target.isLt⟩
      · exact ih h
      · exact ih h
    · exact ih h

theorem slotPort_claimSlot {n : Nat} (hn : n < s.anu.slots.length) (p : Port) (a : Arriving) (m : Nat) :
    slotPort (claimSlot n p a s) m = if m = n then some p else slotPort s m := by
  simp only [slotPort, claimSlot, changeSlot, List.getD_eq_getElem?_getD, List.getElem?_modify]
  by_cases hm : n = m
  · subst hm
    simp [hn, claimedAnswer]
  · simp [hm, Ne.symm hm]

theorem due_slot (s : State) (n : Nat) (q : Port) :
    due s (.slot n) q = if slotPort s n = some q then 1 else 0 := by
  rw [due, if_neg nofun]
  rfl

/-- A slot is claimed, its entry owed to the arrival port. -/
theorem agrees_claimSlot (h : Agrees p₀ [] s) {n : Nat} (hn : n < 8) (free : slotPort s n = none) (p : Port)
    (a : Arriving) : Agrees p [.slot n] (claimSlot n p a s) := by
  have hslot := slotPort_claimSlot (s := s) (n := n) (by rw [h.slots]; exact hn) p a
  refine ⟨by rw [claimSlot, changeSlot]; simpa using h.slots, fun x q => ?_, h.lines, fun q => .inr ?_⟩
  · have hold := h.claimed x q
    rw [claims_nil] at hold
    have hsources : sourcesOf (claimSlot n p a s) q = sourcesOf s q := rfl
    rw [claims, hsources, List.count_append, hold]
    by_cases hx : x = .slot n
    · subst hx
      rw [due_slot, due_slot, hslot, if_pos rfl, free]
      by_cases hq : q = p
      · simp [hq]
      · simp [hq, Ne.symm hq]
    · have howner : ownerPort (claimSlot n p a s) x = ownerPort s x := by
        cases x with
        | slot m =>
          rw [ownerPort, ownerPort, hslot, if_neg]
          rintro rfl
          exact hx rfl
        | _ => rfl
      have hnone : (if q = p then [Source.slot n] else []).count x = 0 := by
        split <;> simp [Ne.symm hx]
      rw [hnone, Nat.add_zero, due, due, howner]
      rfl
  · exact (h.sending q).resolve_left (by simp)

/-- What was owed to a port takes its place in its queue. -/
theorem Agrees.pay {src : Source} (h : Agrees p₀ [src] s) (hsrc : src ≠ .alert)
    (up : (s.port p₀).link = true) : Agrees p₀ [] (pushEntry p₀ src s) := by
  refine ⟨h.slots, fun x q => ?_, pushEntry_lines h.lines up src, fun q => .inr ?_⟩
  · rw [claims_nil, sourcesOf_pushEntry, ← claims, h.claimed]
    exact (SameFrames.due (.of_eq rfl rfl rfl rfl rfl) x q).symm
  · rw [pushEntry_egress]
    exact (h.sending q).resolve_left fun hand => hsrc (List.mem_singleton.mp hand.2).symm

theorem agrees_queueAnswer {n : Nat} (h : Agrees p₀ [.slot n] s) : Agrees p₀ [] (queueAnswer n p₀ s) := by
  unfold queueAnswer
  split
  · next hup => exact h.pay (by simp) hup
  · have hcounted : Agrees p₀ [.slot n] (countDrop p₀ s) :=
      h.of_same (.of_eq rfl rfl rfl rfl rfl) (countEgress_lines _ _ _)
    exact agrees_ownerDropped (src := .slot n) hcounted

theorem agrees_takeQuery (h : Agrees p₀ [] s) (p : Port) (a : Arriving) : Agrees p [] (takeQuery p a s) := by
  have hany : Agrees p [] s := agrees_of_queuesConsistent (queuesConsistent_of_agrees h) p
  cases hw : queryWalk a s with
  | claim i n =>
    obtain ⟨hbusy, hn⟩ := walkQuery_claim hw
    have hfree : slotPort (countHit i s) n = none := by
      have hnone : (s.anu.slots.getD n {}).answer = none := by
        simpa [slotBusy] using hbusy
      rw [slotPort]
      exact congrArg (Option.map Answer.port) hnone
    simp only [takeQuery, hw]
    have hclaim := agrees_claimSlot (hany.effects_nil (countHit_effects i s)) hn hfree p a
    exact agrees_queueAnswer (hclaim.effects (claimed_effects ..) (by simp))
  | overrun m => exact hany.effects_nil (unclaimed_effects fun i n heq => by simp [hw] at heq)
  | dropped hit => exact hany.effects_nil (unclaimed_effects fun i n heq => by simp [hw] at heq)

/-! ### A management frame -/

/-- Effects that are not loose leave the response. -/
theorem effect_response (he : Effect false s t) :
    t.mgu.response.map Response.port = s.mgu.response.map Response.port := by
  cases he with
  | plain _ owners => exact (owners.resolve_left (by decide)).response
  | softReset told => cases told
  | hardReset told => cases told
  | _ => simp

theorem effects_response (he : Effects false s t) :
    t.mgu.response.map Response.port = s.mgu.response.map Response.port :=
  he.keeps (P := fun u => u.mgu.response.map Response.port = s.mgu.response.map Response.port)
    (fun _ _ e hu => (effect_response e).trans hu) rfl

theorem agrees_queueResponse (h : Agrees p₀ [] s) (hnone : s.mgu.response = none) (p : Port)
    (octets : List Byte) (resets : Bool) : Agrees p₀ [] (queueResponse p octets resets s) := by
  unfold queueResponse
  dsimp only
  split
  · next hup =>
    refine h.push (src := .response) (by simp) hup (by simp [ownerPort, hnone]) rfl (fun x hx => ?_) rfl rfl rfl
    cases x with
    | response => exact absurd rfl hx
    | _ => rfl
  · refine h.of_same ⟨rfl, rfl, ?_, rfl, rfl⟩ (fun q => ?_)
    · rw [hnone]
      rfl
    · exact countEgress_lines p (fun c => { c with originatedDrops := bump c.originatedDrops }) s q

theorem agrees_takeManagement (h : Agrees p₀ [] s) (p : Port) (a : Arriving) :
    Agrees p₀ [] (takeManagement p a s) := by
  unfold takeManagement
  split
  · exact h.effects_nil (countMgu_effects ..)
  split
  · exact h.effects_nil (countMgu_effects ..)
  · next hidle =>
    split
    · exact h.effects_nil (countMgu_effects ..)
    · next rs _ =>
      have heffects : Effects false s _ :=
        (acceptFrame_effects p s).trans (takeRequests_effects a.ingress rs { state := _ })
      refine agrees_queueResponse (h.effects_nil heffects) ?_ ..
      have hkept := effects_response heffects
      rw [Option.not_isSome_iff_eq_none.mp hidle] at hkept
      exact Option.map_eq_none_iff.mp hkept

/-! ### Every command -/

theorem Agrees.finish (h : Agrees p₀ [] s) : Agrees p₀ [] (finish s) := h.effects_nil (finish_effects s)

theorem agrees_endsGood (h : Agrees p₀ [] s) {p : Port} {fl : Flow} {isFor : EndClass → Bool}
    {k : Arriving → State → State} (hk : ∀ a u, Agrees p₀ [] u → ∃ p', Agrees p' [] (k a u)) :
    ∃ p', Agrees p' [] (endsGood p fl isFor k s) := by
  have hflow := h.effects_nil (applyFlow_effects fl s)
  rcases endsGood_cases p fl isFor k s with heq | ⟨a, _, _, _, heq⟩
  · rw [heq]
    exact ⟨p₀, hflow⟩
  · rw [heq]
    exact hk a _ (hflow.effects_nil (closeArrival_effects ..))

/-- Every command keeps the queues in agreement with their owners. -/
theorem exec_agrees {c : Instr} (h : Agrees p₀ [] s) (hexec : exec c s = .next t) : ∃ p, Agrees p [] t := by
  have hflow (fl : Flow) := h.effects_nil (applyFlow_effects fl s)
  by_cases hcalm : calm c = true
  · obtain ⟨u, hu, heffects⟩ := calm_runs (loose := false) hcalm s
    rw [hu] at hexec
    cases hexec
    exact ⟨p₀, h.effects_nil heffects⟩
  · cases c with
    | hardReset =>
      cases hexec
      exact ⟨p₀, agrees_hardReset p₀ s⟩
    | queryEnd p flow =>
      cases hexec
      obtain ⟨p', h'⟩ := agrees_endsGood h (p := p) (fl := flow) (isFor := fun c => c == .query)
        fun a u hu => ⟨p, agrees_takeQuery hu p a⟩
      exact ⟨p', h'.finish⟩
    | frameBoundary p flow =>
      simp only [exec, execFrameBoundary] at hexec
      split at hexec
      · next hready =>
        cases hexec
        rw [Bool.and_eq_true, Option.isNone_iff_eq_none] at hready
        exact ⟨p₀, agrees_takeBoundary (hflow flow) hready.2 hready.1⟩
      · cases hexec
        exact ⟨p₀, hflow flow⟩
    | egressEnd p flow =>
      cases hexec
      exact ⟨p₀, (agrees_takeEgressEnd (hflow flow) p).finish⟩
    | linkLoss p flow =>
      simp only [exec, execLinkLoss] at hexec
      split at hexec
      · cases hexec
        exact ⟨p, (agrees_loseLink (hflow flow) p).finish⟩
      · cases hexec
        exact ⟨p₀, hflow flow⟩
    | linkUp p =>
      simp only [exec, execLinkUp] at hexec
      split at hexec
      · cases hexec
        exact ⟨p₀, h⟩
      · cases hexec
        exact ⟨p₀, agrees_raiseLink h p⟩
    | mgmtReqEnd p flow =>
      cases hexec
      obtain ⟨p', h'⟩ := agrees_endsGood h (p := p) (fl := flow) (isFor := fun c => c == .mgmtReq)
        fun a u hu => ⟨p₀, agrees_takeManagement hu p a⟩
      exact ⟨p', h'.finish⟩
    | _ => exact absurd rfl hcalm

/-! ### The bound (R190) -/

/-- The sources an entry can name. -/
def allSources : List Source :=
  (List.range 8).map Source.slot ++ [.probe, .response, .alert, .report]

theorem queue_length_le (h : QueuesConsistent s) (p : Port) : (s.port p).queue.length ≤ 12 := by
  have hagrees := agrees_of_queuesConsistent h p
  have hnodup : (sourcesOf s p).Nodup := by
    refine List.nodup_iff_count_le_one.mpr fun x => ?_
    rw [← claims_nil p, hagrees.claimed]
    unfold due
    split
    · omega
    · split <;> omega
  have hsub : sourcesOf s p ⊆ allSources := by
    intro x hx
    obtain ⟨e, he, rfl⟩ := List.mem_map.mp hx
    have hrange : ∀ e ∈ (s.port p).queue, match e.source with
        | .slot n => n < 8 | .probe => True | .response => True | .alert => True | .report => True := by
      obtain ⟨_, _, _, _, _, ⟨_, _, hu, _⟩, ⟨_, _, hk, _⟩⟩ := h
      cases p
      · exact hu
      · exact hk
    have hn := hrange e he
    cases hsource : e.source with
    | slot n =>
      rw [hsource] at hn
      exact List.mem_append_left _ (List.mem_map_of_mem (List.mem_range.mpr hn))
    | _ => exact List.mem_append_right _ (by decide)
  have hlength := (List.subperm_of_subset hnodup hsub).length_le
  rwa [sourcesOf, List.length_map] at hlength

/-- Settles O25: the queues agree with their owners at each elementary effect, but for what is owed to a port
while the owners of a lost link's entries are told one after another. -/
theorem queuesAgreeWithOwners : Obligations.QueuesAgreeWithOwners := by
  refine ⟨fun s t hs hstep => ?_, fun s hs => ⟨queue_length_le hs .u, queue_length_le hs .k⟩⟩
  rcases step_effects hstep with rfl | ⟨c, rest, _, hexec, _⟩
  · exact hs
  · obtain ⟨p, hp⟩ := exec_agrees (agrees_of_queuesConsistent (s := { s with pending := rest }) hs .u) hexec
    exact queuesConsistent_of_agrees hp

end Sys2Proof.Proofs
end

section
/-! SUPPORT. What a change of the discipline state and the end of an effect leave, and the settled statements
of the discipline's timers and commands. -/

namespace Sys2Proof.Proofs

open Sys2Proof Sys2Proof.Machine Sys2Proof.Safety

/-! ### Pending bits and sequence numbers -/

theorem giveEdge_keeps_set {b i : Nat} (hb : b < 54) (e : Edge) (select : EdgeSelect) {s : State}
    (h : s.wru.pending.getLsbD i = true) : (giveEdge b e select s).wru.pending.getLsbD i = true := by
  unfold giveEdge
  dsimp only
  split
  · exact latch_keeps_set hb h
  · exact h

theorem giveChange_keeps_set {b i : Nat} (hb : b < 54) (before now : Bool) (select : EdgeSelect) {s : State}
    (h : s.wru.pending.getLsbD i = true) :
    (giveChange b before now select s).wru.pending.getLsbD i = true := by
  unfold giveChange
  split
  · exact h
  · exact giveEdge_keeps_set hb _ _ h

theorem setDState_keeps_set {i : Nat} (new : DState) {s : State} (h : s.wru.pending.getLsbD i = true) :
    (setDState new s).wru.pending.getLsbD i = true := by
  unfold setDState
  dsimp only
  split
  · exact h
  · exact giveChange_keeps_set (by decide) _ _ _ (offer_keeps_set _ h)

/-- A change of the discipline state spends one sequence number (R22). -/
theorem setDState_seq (new : DState) (s : State) :
    (setDState new s).rrg.seq = s.rrg.seq + if s.dse.state = new then 0 else 1 := by
  unfold setDState
  dsimp only
  split
  · simp
  · simp

/-- The UNLOCKED condition follows the discipline state, where its bit agreed before (R22, R119). -/
theorem setDState_unlocked_of_enter {new : DState} {s : State} (hnew : new.unlocked = true)
    (hold : s.dse.state.unlocked = false) : (setDState new s).wru.condition.getLsbD 48 = true := by
  have hne : s.dse.state ≠ new := fun h => by simp [h, hnew] at hold
  simp only [setDState, hne, giveChange, hold, hnew, if_false, Bool.false_eq_true, giveEdge_condition]
  exact (getLsbD_putBit _ 48 48 true (by decide)).trans (if_pos rfl)

@[simp] theorem alertTest_pending (s : State) : (alertTest s).wru.pending = s.wru.pending := by
  rcases alertTest_cases s with ⟨_, h⟩ | ⟨_, h⟩
  · rw [h]
  · rw [h, (buildAlert_wru s).1]

@[simp] theorem alertTest_condition (s : State) : (alertTest s).wru.condition = s.wru.condition := by
  rcases alertTest_cases s with ⟨_, h⟩ | ⟨_, h⟩
  · rw [h]
  · rw [h, (buildAlert_wru s).2.2.2.1]

@[simp] theorem finish_wru_pending (s : State) : (finish s).wru.pending = s.wru.pending := by
  rcases finish_cases s with ⟨_, h⟩ | ⟨_, h⟩ <;> simp [h]

@[simp] theorem finish_condition (s : State) : (finish s).wru.condition = s.wru.condition := by
  rcases finish_cases s with ⟨_, h⟩ | ⟨_, h⟩ <;> simp [h]

theorem finish_of_no_test {s : State} (h : s.wru.testDue = false) : finish s = s := by
  simp [finish, h]

/-! ### The growth timer (R45) -/

/-- What reaching free run does to the warnings and the ring. -/
theorem reachFreerun_outputs {s : State} (h : s.dse.state = .holdover) :
    (reachFreerun s).wru.pending.getLsbD 50 = true ∧ (reachFreerun s).rrg.seq = s.rrg.seq + 2 := by
  constructor
  · exact offer_keeps_set _ (latch_sets 50 _ (by decide))
  · simp only [reachFreerun, rackNotice_seq, latch_frame, setDState_seq, h]
    rw [if_neg (by decide), BitVec.add_assoc]
    rfl

/-- What the test of the holdover limit comes to. -/
theorem testHoldoverLimit_outputs {s : State} (h : s.dse.state = .holdover) :
    if s.dse.settings.holdoverLimit < s.dse.u.toNat then
      (testHoldoverLimit s).dse = { s.dse with state := .freerun, growthTimer := none } ∧
        (testHoldoverLimit s).wru.pending.getLsbD 50 = true ∧
        (testHoldoverLimit s).rrg.seq = s.rrg.seq + 2
    else testHoldoverLimit s = s := by
  unfold testHoldoverLimit
  split
  · exact ⟨reachFreerun_dse s, reachFreerun_outputs h⟩
  · rfl

/-- Settles O16. -/
theorem growthExpiryRaisesUncertainty : Obligations.GrowthExpiryRaisesUncertainty := by
  intro s due htimer hreached hstate
  have hexec : exec .growthTimerExpiry s = .next (finish (growthExpiry s)) := by
    simp [exec, execGrowthTimerExpiry, htimer, timerReached, hreached, hstate]
  refine ⟨_, hexec, ?_⟩
  have hu : (addCount s.dse.u s.dse.settings.holdoverBound).toNat =
      min (s.dse.u.toNat + s.dse.settings.holdoverBound) 4294967295 := addCount_toNat ..
  have houtputs := testHoldoverLimit_outputs (s := { s with dse := { s.dse with
    u := addCount s.dse.u s.dse.settings.holdoverBound
    growthTimer := s.dse.growthTimer.map fun t => after t Config.ticksPerSecond } }) hstate
  have hgrown : growthExpiry s = testHoldoverLimit { s with dse := { s.dse with
    u := addCount s.dse.u s.dse.settings.holdoverBound
    growthTimer := s.dse.growthTimer.map fun t => after t Config.ticksPerSecond } } := rfl
  rw [← hu]
  split at houtputs
  · next hbeyond =>
    obtain ⟨hdse, hpending, hseq⟩ := houtputs
    rw [← hgrown] at hdse hpending hseq
    refine ⟨by simp [hdse], by simp [SameBut, growthExpiry], ?_⟩
    rw [if_pos hbeyond]
    exact ⟨by simp [hdse], by simp [hdse], by simpa using hpending, by simpa using hseq⟩
  · next hwithin =>
    rw [← hgrown] at houtputs
    refine ⟨by simp [houtputs], by simp [SameBut, growthExpiry], ?_⟩
    rw [if_neg hwithin]
    exact ⟨by simp [houtputs, hstate], by simp [houtputs, htimer, after], by simp [houtputs]⟩

/-! ### DISCIPLINE_START and DISCIPLINE_STOP (R23, R24) -/

theorem execute_start (ing : Ingress) (table index : Nat) (s : State) :
    execute ing { kind := 4, table := table, index := index, param := [3] } s = doStart s := rfl

theorem execute_stop (ing : Ingress) (table index : Nat) (s : State) :
    execute ing { kind := 4, table := table, index := index, param := [4] } s = stored false (stopDiscipline s) := rfl

theorem startDiscipline_seq (s : State) :
    (startDiscipline s).rrg.seq = s.rrg.seq + if s.dse.state = .acquire then 0 else 1 := by
  simp only [startDiscipline, setDState_seq]
  rfl

/-- Withdrawing the phase term leaves A at F. -/
theorem withdrawPhase_rcu_of_mem {f : Int} (h : -Config.rateLimit ≤ f ∧ f ≤ Config.rateLimit) (s : State) :
    (withdrawPhase f s).rcu =
      { s.rcu with f := f, s := 0, a := f, k := increment f, phaseTimer := none } := by
  have hclamp := clampInt_of_mem _ _ f h.1 h.2
  have happlied : appliedRate f 0 = f := by rw [appliedRate, Int.add_zero, hclamp]
  rw [withdrawPhase_rcu, hclamp, happlied]

/-- Settles O17. -/
theorem disciplineStartsAndStops : Obligations.DisciplineStartsAndStops := by
  intro ing table index s hrate
  dsimp only
  rw [execute_start, execute_stop]
  refine ⟨?_, rfl, stopDiscipline_dse s, ?_, by simp [SameBut, stored]⟩
  · unfold doStart
    split
    · rfl
    · exact ⟨rfl, startDiscipline_dse s, by simp [SameBut, stored], startDiscipline_seq s⟩
  · exact (stopDiscipline_rcu s).trans (withdrawPhase_rcu_of_mem ⟨hrate.1, hrate.2.1⟩ s)

/-! ### PROBE_TIMER_EXPIRY (R25, R26) -/

theorem exec_probeTimerExpiry {s : State} {due : Uptime} (htimer : s.dse.probeTimer = some due)
    (hreached : reached s.rcu.uptime due = true) :
    exec .probeTimerExpiry s = .next (finish (probeExpiry s)) := by
  simp [exec, execProbeTimerExpiry, htimer, timerReached, hreached]

/-- A probe is built and queued where none is left of the previous one and the link is UP. -/
theorem buildProbe_of_no_frame {s : State} (hframe : s.dse.frame = none)
    (hup : (s.port s.mgu.station.timeServerPort).link = true) :
    buildProbe s = pushEntry s.mgu.station.timeServerPort .probe { s with dse := { s.dse with
      nextSeq := s.dse.nextSeq + 1
      outstanding := some { seq := s.dse.nextSeq, port := s.mgu.station.timeServerPort, sent := none }
      held := none
      frame := some (probeFrame s) } } := by
  have hunsent : probeInEgress s = false := by simp [probeInEgress, hframe]
  have hkept : withdrawProbe s = s := by simp [withdrawProbe, hframe]
  rw [buildProbe_of_unsent hunsent, hkept, queueProbe]
  exact if_pos hup

/-- Settles O14. -/
theorem probeBuiltAtExpiry : Obligations.ProbeBuiltAtExpiry := by
  intro s due htimer hreached hserver hout hframe htest hup
  have hmissed : missOutstanding (reloadProbeTimer s) = reloadProbeTimer s := by
    simp [missOutstanding, reloadProbeTimer, hout]
  have hbuilt := buildProbe_of_no_frame (s := reloadProbeTimer s) hframe hup
  have hexpiry : probeExpiry s = buildProbe (reloadProbeTimer s) := by
    rw [probeExpiry, hmissed]
    exact if_neg hserver
  rw [← hexpiry] at hbuilt
  have hfinish : finish (probeExpiry s) = probeExpiry s := finish_of_no_test (by
    rw [hbuilt]
    exact htest)
  refine ⟨_, exec_probeTimerExpiry htimer hreached, ?_⟩
  rw [hfinish, hbuilt]
  refine ⟨?_, setPort_port_same .., setPort_port_ne _ _ _ _ ?_, by simp [SameBut, reloadProbeTimer]⟩
  · simp only [pushEntry_frame, reloadProbeTimer, htimer]
    rfl
  · exact port_other_ne _

/-! ### The miss limit (R34, R44) -/

/-- U at the entry into HOLDOVER (R44). -/
def firstU (s : State) : BitVec 32 := saturate32 (s.dse.lastOffset.getD 0).natAbs

/-- What DSE, RCU and the warnings are once HOLDOVER has been entered and its limit tested. -/
theorem enterHoldover_spec {s : State} (hlocked : s.dse.state = .locked) :
    (enterHoldover s).rcu = (withdrawPhase (learnedRate s) s).rcu ∧
      (enterHoldover s).dse = { s.dse with
        state := if s.dse.settings.holdoverLimit < (firstU s).toNat then .freerun else .holdover
        holdoverRate := learnedRate s
        u := firstU s
        growthTimer := if s.dse.settings.holdoverLimit < (firstU s).toNat then none
          else some (after s.rcu.uptime Config.ticksPerSecond) } ∧
      (enterHoldover s).wru.condition.getLsbD 48 = true ∧
      (s.dse.settings.holdoverLimit < (firstU s).toNat →
        (enterHoldover s).wru.pending.getLsbD 50 = true) := by
  have hbegun := beginHoldover_dse s
  have hstate : (beginHoldover s).dse.state = .holdover := by rw [hbegun]
  have houtputs := testHoldoverLimit_outputs hstate
  have hsettings : (beginHoldover s).dse.settings = s.dse.settings := by rw [hbegun]
  have hu : (beginHoldover s).dse.u = firstU s := by rw [hbegun, firstU]
  have hentered : (beginHoldover s).wru.condition.getLsbD 48 = true :=
    setDState_unlocked_of_enter rfl (by simp [hlocked, DState.unlocked])
  rw [enterHoldover_eq]
  rw [hsettings, hu] at houtputs
  split at houtputs
  · next hbeyond =>
    obtain ⟨hdse, hpending, _⟩ := houtputs
    refine ⟨by simp, by rw [hdse, if_pos hbeyond, if_pos hbeyond, hbegun, firstU], ?_, fun _ => hpending⟩
    rw [testHoldoverLimit, if_pos (by rw [hsettings, hu]; exact hbeyond)]
    simp [reachFreerun, setDState, DState.unlocked, giveChange, hentered]
  · next hwithin =>
    rw [houtputs, if_neg hwithin, if_neg hwithin]
    exact ⟨by simp, by rw [hbegun, firstU], hentered, fun h => absurd h hwithin⟩

theorem link_indifferent (p : Port) (up : Bool) : Indifferent fun s => (s.port p).link = up where
  clock _ _ h := h
  dse _ _ _ h := h
  dtr _ _ h := h
  offer r s h := (offer_link r s p).trans h
  edge b e select s h := by
    rw [← h, State.port, State.port]
    simp

theorem enterHoldover_link (s : State) (p : Port) : ((enterHoldover s).port p).link = (s.port p).link := by
  have h := link_indifferent p (s.port p).link
  rw [enterHoldover_eq, testHoldoverLimit]
  split
  · refine h.offer _ _ ?_
    rw [State.port, (latch_frame _ _).2.2.2.2.2.2.2.2.1]
    exact h.setDState _ _ (h.dse _ _ rfl (h.beginHoldover s rfl))
  · exact h.beginHoldover s rfl

/-- The state in which the miss of an expiry has been counted, HOLDOVER not entered yet. -/
def missCounted (s : State) : State :=
  { s with dse := { s.dse with
    probeTimer := s.dse.probeTimer.map fun t => after t (probeTicks s.dse.settings.p)
    outstanding := none
    held := none
    missRun := bump s.dse.missRun
    ctr := { s.dse.ctr with misses := bump s.dse.ctr.misses } } }

theorem missOutstanding_of_limit {s : State} (hout : s.dse.outstanding.isSome = true)
    (hstate : s.dse.state = .locked) (hlimit : s.dse.settings.missLimit ≤ (bump s.dse.missRun).toNat) :
    missOutstanding (reloadProbeTimer s) = enterHoldover (missCounted s) := by
  rw [missOutstanding, if_pos (by exact hout)]
  exact if_pos ⟨hstate, hlimit⟩

theorem saturate32_toNat (n : Nat) : (saturate32 n).toNat = min n 4294967295 := by
  rw [saturate32, BitVec.toNat_ofNat]
  omega

/-- Settles O15. -/
theorem missLimitEntersHoldover : Obligations.MissLimitEntersHoldover := by
  intro s due theta htimer hreached hserver hout hframe hup hlocked hlast hlimit hhistory hrate
  have hlearned : learnedRate (missCounted s) = if s.dse.history = [] then s.rcu.f
      else roundDiv s.dse.history.sum s.dse.history.length := by
    simp [learnedRate, missCounted, roundMean]
  have hu : (firstU (missCounted s)).toNat = min theta.natAbs 4294967295 := by
    simp [firstU, missCounted, hlast, saturate32_toNat]
  have hmem := learnedRate_mem (s := missCounted s) hrate hhistory
  obtain ⟨hrcu, hdse, hcondition, hpending⟩ := enterHoldover_spec (s := missCounted s) hlocked
  rw [withdrawPhase_rcu_of_mem hmem] at hrcu
  rw [hlearned] at hrcu hdse hmem
  rw [hu] at hdse hpending
  generalize hv : enterHoldover (missCounted s) = v at hrcu hdse hcondition hpending
  have hmgu : v.mgu = s.mgu := by
    rw [← hv]
    simp [missCounted]
  have hsame : SameBut [.rcu, .dse, .wru, .rrg, .rpe, .egm] s v := by
    rw [← hv]
    simp [SameBut, missCounted]
  have hbuilt := buildProbe_of_no_frame (s := v) (by rw [hdse]; exact hframe)
    (by rw [hmgu, ← hv, enterHoldover_link]; exact hup)
  have hexpiry : probeExpiry s = buildProbe v := by
    rw [probeExpiry, missOutstanding_of_limit hout hlocked hlimit, hv]
    exact if_neg (by rw [hmgu]; exact hserver)
  refine ⟨_, exec_probeTimerExpiry htimer hreached, ?_⟩
  rw [hexpiry, hbuilt]
  simp only [finish_frame, pushEntry_frame, finish_condition, finish_wru_pending, hrcu, hdse, RateConsistent]
  refine ⟨trivial, trivial, trivial, ?_, trivial, ?_, rfl, rfl, hcondition, ?_, ?_⟩
  · have happlied : ∀ r : Int, -Config.rateLimit ≤ r ∧ r ≤ Config.rateLimit → r = appliedRate r 0 :=
      fun r hr => by rw [appliedRate, Int.add_zero, clampInt_of_mem _ _ r hr.1 hr.2]
    exact ⟨hmem.1, hmem.2, happlied _ hmem, trivial⟩
  · exact hu
  · split
    · next hbeyond => exact ⟨if_pos hbeyond, if_pos hbeyond, hpending hbeyond⟩
    · next hwithin => exact ⟨if_neg hwithin, if_neg hwithin⟩
  · simpa [SameBut] using hsame

end Sys2Proof.Proofs
end

section
/-! SUPPORT. Requests that are executed alone: a refused one, a SWAP of the pending set, a WRITE of a filter
row and RESET_COUNTERS, with their settled statements. -/

namespace Sys2Proof.Proofs

open Sys2Proof Sys2Proof.Machine Sys2Proof.Safety

/-! ### A refused request (R202) -/

/-- What R202 asks of what a request came to on a state. -/
def RefusalIdle (s : State) (d : Done) : Prop :=
  d.status = .ok ∨ d.status = .clamped ∨ (d.state = s ∧ d.data = [])

section
variable {s t : State}

@[simp] theorem refuse_idle (status : Status) : RefusalIdle s (refuse status s) :=
  .inr (.inr ⟨rfl, rfl⟩)

@[simp] theorem stored_idle (clamped : Bool) : RefusalIdle s (stored clamped t) := by
  cases clamped
  · exact .inl rfl
  · exact .inr (.inl rfl)

@[simp] theorem ok_idle (data : List Byte) : RefusalIdle s { status := .ok, data := data, state := t } :=
  .inl rfl

@[simp] theorem clampedWrite_idle (lo hi v : Nat) (put : Nat → State) :
    RefusalIdle s (clampedWrite lo hi v put) := stored_idle _

@[simp] theorem flagWrite_idle (v : Nat) (put : Bool → State) : RefusalIdle s (flagWrite v s put) := by
  unfold flagWrite; split <;> simp

@[simp] theorem portWrite_idle (v : Nat) (put : Port → State) : RefusalIdle s (portWrite v s put) := by
  unfold portWrite; split <;> simp

@[simp] theorem writeSelect_idle (v : Nat) (put : EdgeSelect → State) :
    RefusalIdle s (writeSelect v s put) := by
  unfold writeSelect; split <;> simp

end

section
variable (i : Nat) (v : List Byte) (s : State)

@[simp] theorem writeClock_idle : RefusalIdle s (writeClock i v s) := by
  unfold writeClock writeF writeIngressComp writeEgressComp
  dsimp only
  split
  case h_1 => split <;> simp
  all_goals simp

@[simp] theorem writeServoSetting_idle : RefusalIdle s (writeServoSetting i v s) := by
  unfold writeServoSetting writeProbeInterval; split <;> simp

@[simp] theorem writeFilter_idle : RefusalIdle s (writeFilter i v s) := by
  unfold writeFilter; split <;> simp

@[simp] theorem writeServer_idle : RefusalIdle s (writeServer i v s) := by
  unfold writeServer
  split
  · simp
  dsimp only
  split
  · simp
  · split <;> simp

@[simp] theorem writeDriftSetting_idle : RefusalIdle s (writeDriftSetting i v s) := by
  unfold writeDriftSetting; split <;> simp

@[simp] theorem writeWarning_idle : RefusalIdle s (writeWarning i v s) := by
  unfold writeWarning; split <;> simp

@[simp] theorem writeProfile_idle : RefusalIdle s (writeProfile i v s) := by
  unfold writeProfile; split <;> simp

@[simp] theorem writeReserve_idle (n : Nat) : RefusalIdle s (writeReserve n s) := by
  unfold writeReserve; split <;> simp

@[simp] theorem writeRing_idle : RefusalIdle s (writeRing i v s) := by
  unfold writeRing writeHighMark writeLowMark; split <;> simp

@[simp] theorem writeReport_idle : RefusalIdle s (writeReport i v s) := by
  unfold writeReport
  dsimp only
  split
  case h_2 => split <;> simp
  all_goals simp

@[simp] theorem writePort_idle (p : Port) : RefusalIdle s (writePort p i v s) := by
  unfold writePort writeIngressComp writeEgressComp writeDeferMark; split <;> simp

@[simp] theorem writeStation_idle : RefusalIdle s (writeStation i v s) := by
  unfold writeStation writeOwn
  dsimp only
  split
  case h_1 => split <;> simp
  all_goals simp

theorem applyWrite_idle (t : Nat) : RefusalIdle s (applyWrite t i v s) := by
  unfold applyWrite writeMask writeFloor; split <;> simp

@[simp] theorem swapCounter_idle (t : Nat) (old : List Byte) : RefusalIdle s (swapCounter t i v old s) := by
  unfold swapCounter; split <;> simp

/-- A SWAP of a flag answers with the old flag exactly when the flag is stored. -/
theorem flagSwap_idle (n : Nat) (old : List Byte) (put : Bool → State) :
    RefusalIdle s { flagWrite n s put with data := if n ≤ 1 then old else [] } := by
  unfold flagWrite
  split
  case h_1 => exact .inl rfl
  case h_2 => exact .inl rfl
  case h_3 h0 h1 =>
    have hn : ¬ n ≤ 1 := fun h => by
      obtain rfl | rfl := Nat.le_one_iff_eq_zero_or_eq_one.mp h
      exacts [h0 rfl, h1 rfl]
    exact .inr (.inr ⟨rfl, if_neg hn⟩)

theorem applySwap_idle (t : Nat) (old : List Byte) : RefusalIdle s (applySwap t i v old s) := by
  unfold applySwap
  split
  · split
    · exact flagSwap_idle ..
    · simp
  · unfold swapWarning
    split
    · simp
    · exact flagSwap_idle ..
    · simp
  · simp

end

theorem applyDo_idle (ing : Ingress) (code : Nat) (args : List Byte) (s : State) :
    RefusalIdle s (applyDo ing code args s) := by
  unfold applyDo
  split
  case h_1 => unfold doSetTime; dsimp only; repeat' split
              all_goals simp
  case h_2 => unfold doStep; dsimp only; split <;> simp
  case h_3 => unfold doStart; split <;> simp
  case h_5 => unfold doFlush; split <;> simp
  case h_6 => exact ok_idle _
  case h_7 => exact ok_idle _
  case h_8 => exact ok_idle _
  case h_9 => unfold doResetTracking; split <;> simp
  all_goals exact stored_idle _

theorem doEntry_idle (r : Request) (s : State) : RefusalIdle s (doEntry r s) := by
  unfold doEntry
  split
  · exact refuse_idle _
  split
  · exact refuse_idle _
  split
  · unfold doRead; split <;> simp
  · unfold doWrite
    split
    · split
      · exact applyWrite_idle ..
      · exact refuse_idle _
    all_goals exact refuse_idle _
  · unfold doSwap
    split
    · split
      · exact applySwap_idle ..
      · exact refuse_idle _
    all_goals exact refuse_idle _

theorem doCommand_idle (ing : Ingress) (param : List Byte) (s : State) :
    RefusalIdle s (doCommand ing param s) := by
  unfold doCommand
  split
  · exact refuse_idle _
  split
  · exact refuse_idle _
  · split
    · exact applyDo_idle ..
    · exact refuse_idle _

/-- Settles O56: every branch of the execution either stores, and answers OK or CLAMPED, or refuses on the
state as it was. -/
theorem refusedRequestChangesNothing : Obligations.RefusedRequestChangesNothing := by
  intro ing r s d hok hclamped
  have h : RefusalIdle s (execute ing r s) := by
    unfold execute
    split
    · exact doCommand_idle ..
    split
    · exact doEntry_idle ..
    · exact refuse_idle _
  exact (h.resolve_left hok).resolve_left hclamped

/-! ### The pending set (R122, R123, R128) -/

/-- A word of bits is not zero exactly when one of its bits is set. -/
theorem bne_zero_iff_exists_bit {n : Nat} (v : BitVec n) :
    (v != 0) = true ↔ ∃ b : Fin n, v.getLsbD b.val = true := by
  rw [bne_iff_ne]
  constructor
  · intro h
    by_contra hno
    refine h (BitVec.eq_of_getLsbD_eq fun i hi => ?_)
    have := not_exists.mp hno ⟨i, hi⟩
    simpa using this
  · rintro ⟨b, hb⟩ rfl
    simp at hb

theorem lineAsserted_iff (pending lineMask : BitVec 54) : lineAsserted pending lineMask = true ↔
    ∃ b : Fin 54, pending.getLsbD b.val = true ∧ lineMask.getLsbD b.val = true := by
  rw [lineAsserted, bne_zero_iff_exists_bit]
  simp

theorem raisesDue_iff (w : Wru) (new : BitVec 54) : raisesDue w new = true ↔
    ∃ b : Fin 54, new.getLsbD b.val = true ∧ w.pending.getLsbD b.val = false ∧
      w.frameMask.getLsbD b.val = true := by
  rw [raisesDue, bne_zero_iff_exists_bit]
  simp [and_assoc]

theorem execute_swapPending {v : List Byte} (h : v.length = 7) (ing : Ingress) (s : State) :
    execute ing { kind := 3, table := 8, index := 0, param := v } s =
      { status := .ok, data := be 7 s.wru.pending.toNat, state := setPending (BitVec.ofNat 54 (ofBe v)) s } := by
  simp [execute, doEntry, tableEntries, warningTable, doSwap, access, warningAccess, h, applySwap, swapWarning]

/-- Settles O60: the SWAP passes the checks of R202 and is `setPending`. -/
theorem pendingSetSwapped : Obligations.PendingSetSwapped := by
  intro ing v s hv d new
  have hd : d = _ := execute_swapPending hv ing s
  rw [hd]
  refine ⟨rfl, rfl, rfl, lineAsserted_iff .., ?_, rfl, by simp [SameBut, setPending, changeWru]⟩
  exact (Bool.or_eq_true ..).to_iff.trans (or_congr_right (raisesDue_iff ..))

/-! ### A filter row (R62) -/

theorem action_ofCode_code (a : Action) : Action.ofCode a.code = some a := by
  cases a <;> rfl

/-- A row that spells a filter gives that filter with the hit counter that the entry keeps. -/
theorem filterOf_filterRow (f : Filter) (hits : Counter) :
    filterOf (filterRow f) hits = some { f with hits := hits } := by
  have hflag : (flagOctet f.enable).length = 1 := rfl
  have henable : field 0 1 (filterRow f) = f.enable.toNat := by
    cases h : f.enable <;> simp [field, slice, filterRow, flagOctet, h, ofBe]
  have hpattern : field 1 4 (filterRow f) = f.pattern.toNat := by
    simp only [filterRow, List.append_assoc]
    exact field_be (n := 4) _ hflag f.pattern.isLt
  have hmask : field 5 1 (filterRow f) = f.maskSel.toNat := by
    rw [filterRow, List.append_assoc, List.append_assoc]
    exact field_be (n := 1) _ (by simp [hflag]) (by omega)
  have haction : field 6 1 (filterRow f) = f.action.code := by
    rw [filterRow, List.append_assoc]
    exact field_be (n := 1) _ (by simp [hflag]) (by cases f.action <;> decide)
  have htarget : field 7 1 (filterRow f) = f.target.toNat := by
    rw [filterRow, ← List.append_nil (be 1 f.target.toNat)]
    exact field_be (n := 1) _ (by simp [hflag]) (by omega)
  have hle : f.enable.toNat ≤ 1 := f.enable.toNat_le
  rw [filterOf, henable, hpattern, hmask, haction, htarget, action_ofCode_code]
  simp [show f.maskSel.toNat ≤ 3 by omega, show f.target.toNat ≤ 7 by omega, hle]

theorem filterRow_length (f : Filter) : (filterRow f).length = 8 := by
  simp [filterRow, flagOctet]

/-- Settles O58: the row passes the checks of R202, since it spells a filter in 8 octets. -/
theorem filterRowStoredAsWritten : Obligations.FilterRowStoredAsWritten := by
  intro ing i f old s hi hlength hold
  have hentry : ∃ o, (filterTable s)[i]? = some o := by
    rw [← Option.isSome_iff_exists]
    simp [filterTable, hlength]
    omega
  obtain ⟨o, ho⟩ := hentry
  simp [execute, doEntry, tableEntries, ho, doWrite, access, hi, filterRow_length, applyWrite, writeFilter,
    hold, filterOf_filterRow, stored]

/-! ### RESET_COUNTERS (R210) -/

/-- The octets of a counter that is zero. -/
abbrev zeroOctets : List Byte := [0, 0, 0, 0]

theorem counterOctets_zero : counterOctets 0#32 = zeroOctets := by decide

theorem execute_resetCounters (ing : Ingress) (table index : Nat) (s : State) :
    execute ing { kind := 4, table := table, index := index, param := [10] } s = stored false (resetCounters s) :=
  rfl

/-- An entry behind the head of a table is one of the tail's. -/
theorem entry_of_tail {head tail : List (List Byte)} {i : Nat} {e : List Byte}
    (h : (head ++ tail)[i]? = some e) (hi : head.length ≤ i) (htail : ∀ x ∈ tail, x = zeroOctets) :
    e = zeroOctets := by
  rw [List.getElem?_append_right hi] at h
  exact htail e (List.mem_of_getElem? h)

/-- The entries of blocks of one length, each at its block and its place in the block. -/
theorem getElem?_flatMap_blocks {α β : Type} (f : α → List β) {k : Nat} (hk : 0 < k) (l : List α)
    (hf : ∀ x ∈ l, (f x).length = k) (i : Nat) : (l.flatMap f)[i]? = l[i / k]?.bind fun x => (f x)[i % k]? := by
  induction l generalizing i with
  | nil => rfl
  | cons x l ih =>
    have hx : (f x).length = k := hf x List.mem_cons_self
    rw [List.flatMap_cons]
    by_cases hi : i < k
    · rw [List.getElem?_append_left (by omega), Nat.div_eq_of_lt hi, Nat.mod_eq_of_lt hi]
      rfl
    · rw [List.getElem?_append_right (by omega), ih (fun y hy => hf y (List.mem_cons_of_mem _ hy)), hx,
        ← Nat.mod_eq_sub_mod (by omega), Nat.div_eq_sub_div hk (by omega : k ≤ i)]
      rfl

theorem servoSettingsTable_length (t : ServoSettings) : (servoSettingsTable t).length = 14 := rfl

theorem driftSettingsTable_length (t : DriftSettings) : (driftSettingsTable t).length = 11 := rfl

/-- The part of a slot's six entries that RESET_COUNTERS zeroes. -/
theorem slotEntries_zeroSlot {s : State} {n k : Nat} {sl : Slot} {e : List Byte}
    (h : (slotEntries s n (zeroSlot sl))[k]? = some e) (h0 : k ≠ 0) (h5 : k ≠ 5) : e = zeroOctets := by
  match k, h with
  | 1, h | 2, h | 3, h | 4, h => exact (Option.some.inj h).symm.trans counterOctets_zero
  | 0, _ => exact absurd rfl h0
  | 5, _ => exact absurd rfl h5

theorem profileEntries_zeroProfile {k : Nat} {p : Profile} {e : List Byte}
    (h : (profileEntries (zeroProfile p))[k]? = some e) (hk : 2 ≤ k) : e = zeroOctets :=
  entry_of_tail h hk (by simp [zeroProfile, counterOctets_zero])

theorem portEntries_resetCounters (s : State) (p : Port) (place : Nat) : ∃ head tail,
    portEntries (resetCounters s) p place = head ++ tail ∧ head.length = 6 ∧ tail.length = 13 ∧
      ∀ x ∈ tail, x = zeroOctets := by
  cases p <;> exact ⟨_, ingressCounterTable {} ++ egmCounterTable {}, List.append_assoc .., rfl, rfl, by decide⟩

section
variable {s : State} {i : Nat} {e : List Byte}

theorem filterTable_resetCounters (hlength : s.fcl.filters.length = 32)
    (h : (filterTable (resetCounters s))[i]? = some e) (hi : 32 ≤ i) : e = zeroOctets :=
  entry_of_tail h (by simpa [resetCounters, hlength] using hi)
    (by simp [resetCounters, counterOctets_zero])

theorem slotTable_resetCounters (h : (slotTable (resetCounters s))[i]? = some e) (h0 : i ≠ 0)
    (hfirst : (i - 1) % 6 ≠ 0) (hlast : (i - 1) % 6 ≠ 5) : e = zeroOctets := by
  obtain ⟨j, rfl⟩ := Nat.exists_eq_succ_of_ne_zero h0
  rw [slotTable, List.getElem?_cons_succ, getElem?_flatMap_blocks _ (by decide : 0 < 6) _ fun _ _ => rfl,
    Option.bind_eq_some_iff] at h
  obtain ⟨⟨sl, n⟩, hslot, hentry⟩ := h
  have hmem : sl ∈ s.anu.slots.map zeroSlot := by
    rw [List.getElem?_zipIdx, Option.map_eq_some_iff] at hslot
    obtain ⟨_, hsl, heq⟩ := hslot
    obtain rfl : _ = sl := congrArg Prod.fst heq
    exact List.mem_of_getElem? hsl
  obtain ⟨sl, _, rfl⟩ := List.mem_map.mp hmem
  exact slotEntries_zeroSlot hentry hfirst hlast

theorem serverTable_resetCounters (hlength : s.dtr.servers.length = 48)
    (h : (serverTable (resetCounters s))[i]? = some e) (hi : 48 ≤ i) : e = zeroOctets := by
  refine entry_of_tail h (by simpa [resetCounters, hlength] using hi) ?_
  have hzero (o : Option Server) : counterOctets (queryCount (o.map zeroQueries)) = zeroOctets := by
    cases o <;> exact counterOctets_zero
  simp [resetCounters, hzero]

theorem warningTable_resetCounters (hlength : s.dtr.servers.length = 48)
    (h : (warningTable (resetCounters s))[i]? = some e) (hi : 60 ≤ i) : e = zeroOctets :=
  entry_of_tail h (by simpa [resetCounters, hlength] using hi)
    (show ∀ x ∈ wruCounterTable {}, x = zeroOctets by decide)

theorem profileTable_resetCounters (hlength : s.dte.profiles.length = 8)
    (h : (profileTable (resetCounters s))[i]? = some e) (hi : i ≤ 72) (hwritten : i ≠ 72 → 2 ≤ i % 9) :
    e = zeroOctets := by
  have hsum : ((resetCounters s).dte.profiles.flatMap profileEntries).length = 72 := by
    simp [resetCounters, List.length_flatMap, profileEntries, Function.comp_def, hlength]
  rw [profileTable] at h
  by_cases hlast : i = 72
  · rw [List.getElem?_append_right (by omega), hsum, hlast] at h
    exact (Option.some.inj h).symm.trans counterOctets_zero
  · rw [List.getElem?_append_left (by omega),
      getElem?_flatMap_blocks _ (by decide : 0 < 9) _ fun _ _ => rfl, Option.bind_eq_some_iff] at h
    obtain ⟨p, hprofile, hentry⟩ := h
    obtain ⟨p, _, rfl⟩ := List.mem_map.mp (List.mem_of_getElem? hprofile)
    exact profileEntries_zeroProfile hentry (hwritten hlast)

theorem portTable_resetCounters (h : (portTable (resetCounters s))[i]? = some e) (hi : 6 ≤ i % 19) :
    e = zeroOctets := by
  obtain ⟨head, tail, hu, hhead, htail, hzero⟩ := portEntries_resetCounters s .u 14004
  obtain ⟨head', tail', hk, hhead', htail', hzero'⟩ := portEntries_resetCounters s .k 14023
  rw [portTable, hu, hk] at h
  by_cases hlow : i < 19
  · rw [List.getElem?_append_left (by simp [hhead, htail, hlow])] at h
    exact entry_of_tail h (by omega) hzero
  · rw [List.getElem?_append_right (by simp [hhead, htail]; omega)] at h
    have hlength := (List.getElem?_eq_some_iff.mp h).1
    simp only [List.length_append, hhead, htail, hhead', htail'] at hlength
    exact entry_of_tail h (by simp only [List.length_append, hhead, htail]; omega) hzero'

/-- Every counter entry of a table of the part reads zero after RESET_COUNTERS. -/
theorem counterEntry_resetCounters (hsizes : TableSizes s) {t : Nat} {l : List (List Byte)}
    (htable : tableEntries (resetCounters s) t = some l) (hentry : l[i]? = some e)
    (haccess : access t i = .swap 4) : e = zeroOctets := by
  obtain ⟨hfilters, _, _, hservers, hprofiles, _⟩ := hsizes
  have hwriteOf (o : Option Nat) : writeOf o ≠ .swap 4 := by cases o <;> exact nofun
  unfold access at haccess
  split at haccess
  case h_1 =>
    unfold clockAccess at haccess
    split_ifs at haccess
  case h_2 =>
    unfold servoAccess at haccess
    split at haccess
    case isTrue hi =>
      exact entry_of_tail (Option.some.inj htable ▸ hentry) hi
        (show ∀ x ∈ dseCounterTable {}, x = zeroOctets by decide)
    case isFalse => exact absurd haccess (hwriteOf _)
  case h_3 =>
    split at haccess
    case isTrue => cases haccess
    case isFalse hi =>
      exact filterTable_resetCounters hfilters (Option.some.inj htable ▸ hentry) (Nat.le_of_not_lt hi)
  case h_4 => cases haccess
  case h_5 =>
    unfold slotAccess at haccess
    split_ifs at haccess with h0 hfirst hlast
    · exact absurd haccess (by decide)
    · exact slotTable_resetCounters (Option.some.inj htable ▸ hentry) h0 hfirst hlast
  case h_6 =>
    split at haccess
    case isTrue => cases haccess
    case isFalse hi =>
      exact serverTable_resetCounters hservers (Option.some.inj htable ▸ hentry) (Nat.le_of_not_lt hi)
  case h_7 =>
    unfold driftAccess at haccess
    split at haccess
    case isTrue hi =>
      exact entry_of_tail (Option.some.inj htable ▸ hentry) hi
        (show ∀ x ∈ dtrCounterTable {}, x = zeroOctets by decide)
    case isFalse => exact absurd haccess (hwriteOf _)
  case h_8 =>
    unfold warningAccess at haccess
    split_ifs at haccess
    · exact absurd haccess (by decide)
    · exact absurd haccess (by decide)
    · exact warningTable_resetCounters hservers (Option.some.inj htable ▸ hentry) ‹_›
  case h_9 =>
    unfold profileAccess at haccess
    split_ifs at haccess
    · exact profileTable_resetCounters hprofiles (Option.some.inj htable ▸ hentry) (by omega) (by omega)
    · exact profileTable_resetCounters hprofiles (Option.some.inj htable ▸ hentry) (by omega) (by omega)
  case h_10 =>
    unfold ringAccess at haccess
    split_ifs at haccess
    exact entry_of_tail (Option.some.inj htable ▸ hentry) ‹9 ≤ i›
      (show ∀ x ∈ rrgCounterTable {}, x = zeroOctets by decide)
  case h_11 =>
    unfold reportAccess at haccess
    split_ifs at haccess
    exact entry_of_tail (Option.some.inj htable ▸ hentry) ‹6 ≤ i›
      (show ∀ x ∈ [0, 0, 0].map counterOctets, x = zeroOctets by decide)
  case h_12 =>
    unfold portAccess at haccess
    split_ifs at haccess
    exact portTable_resetCounters (Option.some.inj htable ▸ hentry) ‹_›
  case h_13 =>
    unfold stationAccess at haccess
    split at haccess
    case isTrue hi =>
      exact entry_of_tail (Option.some.inj htable ▸ hentry) hi
        (show ∀ x ∈ mguCounterTable {}, x = zeroOctets by decide)
    case isFalse => exact absurd haccess (hwriteOf _)
  case h_14 => cases haccess

end

/-- Settles O59: every table that holds counters shows them behind its other entries or at fixed places of its
blocks, and there RESET_COUNTERS leaves zeros. -/
theorem resetCountersZeroesAll : Obligations.ResetCountersZeroesAll := by
  intro ing table index t i s l e hsizes d htable hentry
  have hd : d = _ := execute_resetCounters ing table index s
  rw [hd] at htable ⊢
  refine ⟨rfl, counterEntry_resetCounters hsizes htable hentry, rfl, rfl, rfl, rfl, rfl, ?_, ?_, ?_, ?_⟩
  · simp [stored, resetCounters, zeroSlot, Function.comp_def]
  · simp [stored, resetCounters, zeroSlot, Function.comp_def]
  · simp [stored, resetCounters, zeroQueries, Function.comp_def]
  · simp [SameBut, stored, resetCounters]

end Sys2Proof.Proofs
end

section
/-! SUPPORT. The timers of the servers, the exchanges, the warnings and the reports, and the link that comes
up, with their settled statements. -/

namespace Sys2Proof.Proofs

open Sys2Proof Sys2Proof.Machine Sys2Proof.Safety

/-! ### What several effects leave as it was -/

section
variable {l l' : List Block} {s t u : State}

theorem same_trans {α : Type} {P : Prop} {x y z : α} (h : P ∨ y = x) (h' : P ∨ z = y) : P ∨ z = x :=
  h.elim .inl fun hy => h'.imp id fun hz => hz.trans hy

theorem sameBut_refl (l : List Block) (s : State) : SameBut l s s := by simp [SameBut]

theorem sameBut_trans (h : SameBut l s t) (h' : SameBut l t u) : SameBut l s u := by
  obtain ⟨rcu, dse, fcl, anu, dtr, wru, dte, rrg, rpe, egm, mgu, held, pending⟩ := h
  obtain ⟨rcu', dse', fcl', anu', dtr', wru', dte', rrg', rpe', egm', mgu', held', pending'⟩ := h'
  exact ⟨same_trans rcu rcu', same_trans dse dse', same_trans fcl fcl', same_trans anu anu',
    same_trans dtr dtr', same_trans wru wru', same_trans dte dte', same_trans rrg rrg', same_trans rpe rpe',
    same_trans egm egm', same_trans mgu mgu', held'.trans held, pending'.trans pending⟩

theorem sameBut_mono (h : SameBut l s t) (hl : l ⊆ l') : SameBut l' s t := by
  obtain ⟨rcu, dse, fcl, anu, dtr, wru, dte, rrg, rpe, egm, mgu, same⟩ := h
  exact ⟨rcu.imp_left (hl ·), dse.imp_left (hl ·), fcl.imp_left (hl ·), anu.imp_left (hl ·),
    dtr.imp_left (hl ·), wru.imp_left (hl ·), dte.imp_left (hl ·), rrg.imp_left (hl ·), rpe.imp_left (hl ·),
    egm.imp_left (hl ·), mgu.imp_left (hl ·), same⟩

theorem foldl_sameBut {α : Type} {f : State → α → State} (h : ∀ s x, SameBut l s (f s x)) (xs : List α)
    (s : State) : SameBut l s (xs.foldl f s) := by
  induction xs generalizing s with
  | nil => exact sameBut_refl l s
  | cons x xs ih => exact sameBut_trans (h s x) (ih _)

theorem finish_sameBut (s : State) : SameBut [.wru, .egm] s (finish s) := by simp [SameBut]

end

/-! ### Records are only appended -/

theorem offer_prefix (r : Record) (s : State) : s.rrg.held <+: (offer r s).rrg.held := by
  rcases offer_cases r s with ⟨_, ho⟩ | ⟨_, ho⟩
  · simp [ho, Rrg.write]
  · simp [ho, Rrg.lose]

theorem rackNotice_prefix (cause : RackCause) (old new : DState) (v : Int) (s : State) :
    s.rrg.held <+: (rackNotice cause old new v s).rrg.held := offer_prefix ..

theorem recomputeMajority_prefix (s : State) : s.rrg.held <+: (recomputeMajority s).rrg.held := by
  unfold recomputeMajority
  dsimp only
  split
  · exact List.prefix_rfl
  · rw [(giveChange_frame ..).2.2.2.2.2.2.1]
    refine (List.IsPrefix.trans ?_ (rackNotice_prefix _ _ _ _ _))
    exact List.prefix_rfl

/-- A notice of a server finds room in a ring that is not full. -/
theorem serverNotice_held {s : State} (h : s.rrg.count < Config.ringSlots) (i : Nat) (sv : Server)
    (old new : Option SState) (cause : ServerCause) :
    (serverNotice i sv old new cause s).rrg.held = s.rrg.held ++
      [{ quality := quality s, seq := s.rrg.seq, date := s.rcu.time.stamp
         body := .server (BitVec.ofNat 8 i) sv.address old new cause sv.fo sv.drift }] :=
  offer_held h

/-! ### A server falls silent or is evicted (R107, R108) -/

theorem aged_iff (sv : Server) (n : Nat) (s : State) :
    aged sv n s = true ↔ n * 125000000 ≤ (s.rcu.uptime - sv.lastQuery).toNat := decide_eq_true_iff

/-- An entry that has fallen silent, its measurements kept. -/
abbrev silenced (sv : Server) : Server := { sv with state := .silent, run := 0 }

/-- Entry `i` has fallen silent: it is counted, noticed and its warning condition given. -/
def fallSilent (i : Nat) (sv : Server) (s : State) : State :=
  giveChange i (warns s.dtr.settings.silentWarn sv.state) (warns s.dtr.settings.silentWarn .silent) sv.select
    (serverNotice i (silenced sv) (some sv.state) (some .silent) .silenced
      (countDtr (fun c => { c with silenced := bump c.silenced }) (setServer i (some (silenced sv)) s)))

theorem fallSilent_dtr (i : Nat) (sv : Server) (s : State) : (fallSilent i sv s).dtr = { s.dtr with
    servers := s.dtr.servers.set i (some (silenced sv))
    ctr := { s.dtr.ctr with silenced := bump s.dtr.ctr.silenced } } := by
  simp [fallSilent, countDtr, setServer]

/-- An aged entry that is not due to be evicted falls silent and no more. -/
theorem silenceIfDue_of_aged {i : Nat} {s : State} {sv : Server} (hsv : serverAt i s = some sv)
    (hstate : sv.state ≠ .silent) (haged : aged sv s.dtr.settings.silenceTimeout s = true)
    (hkept : sv.pinned = true ∨ aged sv s.dtr.settings.evictionTime s = false) :
    silenceIfDue i s = fallSilent i sv s := by
  have heq : silenceIfDue i s = evictIfDue i (fallSilent i sv s) := by
    simp only [silenceIfDue, hsv, if_pos (And.intro hstate haged)]
    simp [fallSilent, countDtr, setServer]
  have hafter : serverAt i (fallSilent i sv s) = some (silenced sv) := by
    simp [serverAt, fallSilent_dtr, lt_of_serverAt hsv]
  have hage : aged (silenced sv) s.dtr.settings.evictionTime (fallSilent i sv s) =
      aged sv s.dtr.settings.evictionTime s := by
    simp [aged, fallSilent]
  rw [heq, evictIfDue, hafter]
  refine if_neg fun ⟨_, hpinned, hevict⟩ => ?_
  rw [fallSilent_dtr, hage] at hevict
  rcases hkept with hp | ha
  · exact Bool.false_ne_true (hpinned.symm.trans hp)
  · exact Bool.false_ne_true (ha.symm.trans hevict)

theorem fallSilent_held {i : Nat} {sv : Server} {s : State} (h : s.rrg.count < Config.ringSlots) :
    (fallSilent i sv s).rrg.held = s.rrg.held ++
      [{ quality := quality s, seq := s.rrg.seq, date := s.rcu.time.stamp
         body := .server (BitVec.ofNat 8 i) sv.address (some sv.state) (some .silent) .silenced
           sv.fo sv.drift }] := by
  rw [fallSilent, (giveChange_frame ..).2.2.2.2.2.2.1]
  exact serverNotice_held (s := countDtr _ (setServer ..)) h ..

/-- Settles O37: the entry is too young to be evicted, or PINNED, so that it falls silent and stays. -/
theorem agedServerFallsSilent : Obligations.AgedServerFallsSilent := by
  intro i s sv hsv hstate haged hkept
  have hkept' : sv.pinned = true ∨ aged sv s.dtr.settings.evictionTime s = false := by
    refine hkept.imp id fun hyoung => ?_
    rw [← Bool.not_eq_true, aged_iff]
    omega
  have heq := silenceIfDue_of_aged hsv hstate ((aged_iff ..).mpr haged) hkept'
  refine ⟨_, rfl, ?_⟩
  rw [heq]
  refine ⟨?_, ?_, ?_, fun hroom => ?_, ?_⟩
  · simp [recomputeMajority_dtr, fallSilent_dtr]
  · simp [recomputeMajority_dtr, fallSilent_dtr]
  · simp [recomputeMajority_dtr, fallSilent_dtr]
  · rw [(finish_frame _).2.2.2.2.2.2.1, ← fallSilent_held hroom]
    exact recomputeMajority_prefix _
  · simp [SameBut, fallSilent]

theorem clearServer_held {i : Nat} {sv : Server} {cause : ServerCause} {s : State}
    (h : s.rrg.count < Config.ringSlots) : (clearServer i sv cause s).rrg.held = s.rrg.held ++
      [{ quality := quality s, seq := s.rrg.seq, date := s.rcu.time.stamp
         body := .server (BitVec.ofNat 8 i) sv.address (some sv.state) none cause sv.fo sv.drift }] := by
  rw [clearServer, setServer_rrg, (giveChange_frame ..).2.2.2.2.2.2.1]
  exact serverNotice_held h ..

/-- Settles O38: a PINNED entry is not evicted, and a LEARNED one is counted, noticed and cleared. -/
theorem silentServerEvicted : Obligations.SilentServerEvicted := by
  intro i s sv hsv hstate haged
  refine ⟨_, rfl, ?_, by simp [SameBut]⟩
  cases hpinned : sv.pinned with
  | true =>
    have heq : evictIfDue i.val s = s := by
      simp [evictIfDue, hsv, hpinned]
    rw [heq, if_pos rfl]
    exact ⟨by simp [recomputeMajority_dtr], by simp [recomputeMajority_dtr]⟩
  | false =>
    have heq : evictIfDue i.val s =
        clearServer i.val sv .evicted (countDtr (fun c => { c with evictions := bump c.evictions }) s) := by
      simp [evictIfDue, hsv, hpinned, hstate, (aged_iff ..).mpr haged]
    rw [heq, if_neg Bool.false_ne_true]
    refine ⟨?_, ?_, fun hroom => ?_⟩
    · simp [recomputeMajority_dtr, clearServer_dtr]
    · simp [recomputeMajority_dtr, clearServer_dtr]
    · rw [(finish_frame _).2.2.2.2.2.2.1]
      have hheld := clearServer_held (i := i.val) (sv := sv) (cause := .evicted)
        (s := countDtr (fun c => { c with evictions := bump c.evictions }) s) hroom
      rw [hstate] at hheld
      exact hheld ▸ recomputeMajority_prefix _

/-! ### An exchange deadline (R145) -/

theorem dueAt_iff (deadline : Uptime) (e : Option Exchange) :
    dueAt deadline e = true ↔ e.map Exchange.deadline = some deadline := by
  cases e <;> simp [dueAt]

theorem dueExchanges_length (deadline : Uptime) (s : State) : (dueExchanges deadline s).length =
    s.dte.exchanges.countP fun e => e.map Exchange.deadline == some deadline := by
  rw [dueExchanges]
  induction s.dte.exchanges with
  | nil => rfl
  | cons e l ih =>
    cases e with
    | none => simpa [dueAt] using ih
    | some x =>
      simp only [dueAt] at ih
      by_cases h : x.deadline = deadline <;> simp [dueAt, h, ih]

/-- Records that are offered one by one take one sequence number each. -/
theorem foldl_offer_seq {α : Type} (f : State → α → Record) (l : List α) (s : State) :
    (l.foldl (fun s x => offer (f s x) s) s).rrg.seq = s.rrg.seq + BitVec.ofNat 16 l.length := by
  induction l generalizing s with
  | nil => simp
  | cons x l ih =>
    rw [List.foldl_cons, ih, offer_seq, List.length_cons, BitVec.add_assoc, BitVec.ofNat_add, 
      BitVec.add_comm 1]
    rfl

/-- The exchanges of a deadline, freed and counted, their records not offered yet. -/
def deadlineCounted (deadline : Uptime) (s : State) : State :=
  (dueExchanges deadline s).foldl
    (fun s x => countProfile x.profile (fun c => { c with timedOut := bump c.timedOut }) s) (freeDue deadline s)

theorem expireDeadline_eq (deadline : Uptime) (s : State) : expireDeadline deadline s =
    (dueExchanges deadline s).foldl (fun s x => offer (unansweredRecord x .timedOut s) s)
      (deadlineCounted deadline s) := rfl

theorem deadlineCounted_frame (deadline : Uptime) (s : State) :
    (deadlineCounted deadline s).dte.exchanges = (freeDue deadline s).dte.exchanges ∧
      (deadlineCounted deadline s).dte.discarded = s.dte.discarded ∧
      (deadlineCounted deadline s).rrg = s.rrg ∧ SameBut [.dte] s (deadlineCounted deadline s) := by
  refine ⟨foldl_keeps (fun s => s.dte.exchanges) (fun _ _ => by rfl) .., 
    foldl_keeps (fun s => s.dte.discarded) (fun _ _ => by rfl) .., foldl_keeps State.rrg (fun _ _ => by rfl) .., ?_⟩
  exact sameBut_trans (by simp [SameBut]) (foldl_sameBut (fun _ _ => by simp [SameBut]) ..)

/-- The records of a deadline are offered, and DTE has done its part before. -/
theorem expireDeadline_frame (deadline : Uptime) (s : State) :
    (expireDeadline deadline s).dte = (deadlineCounted deadline s).dte ∧
      SameBut [.wru, .rrg, .rpe, .egm] (deadlineCounted deadline s) (expireDeadline deadline s) :=
  ⟨foldl_keeps State.dte (fun _ _ => by simp) .., foldl_sameBut (fun _ _ => by simp [SameBut]) ..⟩

/-- Settles O41: as many records are offered as entries were due. -/
theorem deadlineClosesExchanges : Obligations.DeadlineClosesExchanges := by
  intro deadline s hreached
  obtain ⟨hexchanges, hdiscarded, hring, hcounted⟩ := deadlineCounted_frame deadline s
  obtain ⟨hdte, hexpired⟩ := expireDeadline_frame deadline s
  refine ⟨finish (expireDeadline deadline s), if_pos hreached, ?_, ?_, ?_, ?_⟩
  · simp only [finish_frame, hdte, hexchanges]
    simp only [freeDue, dueAt_iff]
  · rw [(finish_frame _).2.2.2.2.2.2.1, expireDeadline_eq, foldl_offer_seq, dueExchanges_length, hring]
  · simp only [finish_frame, hdte, hdiscarded]
  · refine sameBut_trans (sameBut_mono hcounted (by simp)) (sameBut_trans (sameBut_mono hexpired (by simp)) ?_)
    simp [SameBut]

/-! ### Queue entries -/

@[simp] theorem pushEntry_port_same (p : Port) (src : Source) (s : State) :
    (pushEntry p src s).port p = { s.port p with queue := (s.port p).queue ++ [{ source := src }] } :=
  setPort_port_same ..

@[simp] theorem pushEntry_port_other (p : Port) (src : Source) (s : State) :
    (pushEntry p src s).port p.other = s.port p.other := setPort_port_other ..

theorem pushEntry_port_ne {p q : Port} (h : q ≠ p) (src : Source) (s : State) :
    (pushEntry p src s).port q = s.port q := setPort_port_ne _ _ _ _ h

theorem eq_other_of_ne {p q : Port} (h : q ≠ p) : q = p.other := by
  revert h
  cases p <;> cases q <;> decide

/-! ### The report timer (R178) -/

/-- The state of an expiry of the report timer before its due check. -/
def reportTimerExpired (s : State) : State :=
  { s with rpe := { s.rpe with
    timer := s.rpe.timer.map fun t => after t (s.rpe.period * Config.ticksPerMs)
    timerDue := true } }

theorem reportCanBuild_of_timerDue {s : State} (h : s.rpe.timerDue = true) : reportCanBuild s = true ↔
    0 < s.rrg.count ∧ s.rpe.inFlight = none ∧ s.mgu.station.collector ≠ 0 ∧
      (s.port s.mgu.station.collectorPort).link = true := by
  simp [reportCanBuild, reportIsDue, h, and_assoc]

/-- Settles O44: the timer-due flag makes a report due as soon as the ring holds a record. -/
theorem reportTimerDrivesReport : Obligations.ReportTimerDrivesReport := by
  intro s due htimer hreached q
  have hexec : exec .reportTimerExpiry s = .next (dueCheck (reportTimerExpired s)) :=
    if_pos (by rw [htimer]; exact hreached)
  have hreload : (reportTimerExpired s).rpe.timer = some (due + BitVec.ofNat 64 (s.rpe.period * 125000)) := by
    rw [reportTimerExpired, htimer]
    rfl
  have hcan : reportCanBuild (reportTimerExpired s) = true ↔ 0 < s.rrg.count ∧ s.rpe.inFlight = none ∧
      s.mgu.station.collector ≠ 0 ∧ (s.port q).link = true := reportCanBuild_of_timerDue rfl
  refine ⟨_, hexec, ?_⟩
  unfold dueCheck
  split
  · next can =>
    rw [if_pos (hcan.mp can)]
    exact ⟨hreload, rfl, rfl, by simp [SameBut, reportTimerExpired], rfl, rfl, rfl, rfl, rfl, rfl,
      pushEntry_port_same .., pushEntry_port_other ..⟩
  · next cannot =>
    rw [if_neg (fun h => cannot (hcan.mpr h))]
    exact ⟨hreload, rfl, rfl, by simp [SameBut, reportTimerExpired], rfl, rfl, rfl⟩

/-! ### An alert is built (R124, R125) -/

theorem alertFormed_port (s : State) (p : Port) : (alertFormed s).port p = s.port p := rfl

theorem buildAlert_port_collector (s : State) : (buildAlert s).port s.mgu.station.collectorPort =
    { s.port s.mgu.station.collectorPort with
      queue := (s.port s.mgu.station.collectorPort).queue ++ [{ source := .alert }] } := by
  rw [buildAlert_eq]
  split
  · next hseparate =>
    rw [pushEntry_port_ne ((managerCopy_port s).2 hseparate).1.symm]
    exact pushEntry_port_same ..
  · exact pushEntry_port_same ..

theorem buildAlert_port_other (s : State) : (buildAlert s).port s.mgu.station.collectorPort.other =
    if managerCopy s = .separate then { s.port s.mgu.station.collectorPort.other with
      queue := (s.port s.mgu.station.collectorPort.other).queue ++ [{ source := .alert }] }
    else s.port s.mgu.station.collectorPort.other := by
  rw [buildAlert_eq]
  split
  · next hseparate =>
    rw [eq_other_of_ne ((managerCopy_port s).2 hseparate).1, pushEntry_port_same, pushEntry_port_other]
    rfl
  · exact pushEntry_port_other ..

theorem buildAlert_wru_eq (s : State) : (buildAlert s).wru = (alertFormed s).wru := by
  rw [buildAlert_eq]
  split <;> rfl

/-- What decides whether and how the manager copy is formed. -/
theorem managerCopy_iff (s : State) :
    (managerCopy s = .separate ↔ (s.wru.copyToManager = true ∧ s.mgu.station.manager ≠ 0) ∧
      s.mgu.managerPort ≠ s.mgu.station.collectorPort ∧ (s.port s.mgu.managerPort).link = true) ∧
    (managerCopy s = .omitted ↔ (s.wru.copyToManager = true ∧ s.mgu.station.manager ≠ 0) ∧
      s.mgu.managerPort ≠ s.mgu.station.collectorPort ∧ (s.port s.mgu.managerPort).link = false) ∧
    (managerCopy s = .shared ∨ managerCopy s = .separate ↔
      (s.wru.copyToManager = true ∧ s.mgu.station.manager ≠ 0) ∧ ¬ managerCopy s = .omitted) := by
  unfold managerCopy
  simp only [Bool.and_eq_true, bne_iff_ne]
  repeat' split
  all_goals simp_all

theorem holdOffExpired_iff (s : State) : holdOffExpired s = true ↔
    s.wru.lastAlertEnd.all (fun last =>
      decide (s.wru.holdOff * 125000 ≤ (s.rcu.uptime - last).toNat)) = true := by
  unfold holdOffExpired
  cases s.wru.lastAlertEnd <;> exact Iff.rfl

theorem alertCanBuild_iff (s : State) : alertCanBuild s = true ↔ s.wru.alertDue = true ∧
    s.mgu.station.collector ≠ 0 ∧ (s.port s.mgu.station.collectorPort).link = true ∧ s.wru.alert = none ∧
    holdOffExpired s = true := by
  simp [alertCanBuild, and_assoc]

/-- Settles O54: the hypotheses are the tests of R124 but for alert-due. -/
theorem alertBuiltAfterHoldOff : Obligations.AlertBuiltAfterHoldOff := by
  intro s hholdOff hcollector hlink hnone q m formed omitted separate
  have hexpired : holdOffExpired s = true := by
    rw [holdOffExpired_iff, Option.all_eq_true]
    exact fun last hlast => decide_eq_true (hholdOff last hlast)
  obtain ⟨hseparate, homitted, hmanager⟩ := managerCopy_iff s
  refine ⟨alertTest s, rfl, ?_⟩
  cases hdue : s.wru.alertDue with
  | false =>
    rw [if_neg Bool.false_ne_true, alertTest, if_neg]
    rw [alertCanBuild_iff, hdue]
    exact fun h => Bool.false_ne_true h.1
  | true =>
    rw [if_pos rfl, alertTest, if_pos ((alertCanBuild_iff s).mpr ⟨hdue, hcollector, hlink, hnone, hexpired⟩)]
    refine ⟨?_, buildAlert_port_collector s, ?_, ?_⟩
    · rw [buildAlert_wru_eq, alertFormed, builtAlert, if_congr hmanager rfl rfl, if_congr homitted rfl rfl]
      simp only [homitted]
      rfl
    · rw [buildAlert_port_other, if_congr hseparate rfl rfl]
    · simp [SameBut]

/-! ### A link comes up (R197) -/

theorem alertTest_port_collector (s : State) : (alertTest s).port s.mgu.station.collectorPort =
    { s.port s.mgu.station.collectorPort with
      queue := (s.port s.mgu.station.collectorPort).queue ++
        if alertCanBuild s then [{ source := .alert }] else [] } := by
  unfold alertTest
  split
  · exact buildAlert_port_collector s
  · rw [List.append_nil]

theorem alertTest_port_other (s : State) : (alertTest s).port s.mgu.station.collectorPort.other =
    if alertCanBuild s ∧ managerCopy s = .separate then { s.port s.mgu.station.collectorPort.other with
      queue := (s.port s.mgu.station.collectorPort.other).queue ++ [{ source := .alert }] }
    else s.port s.mgu.station.collectorPort.other := by
  unfold alertTest
  split
  · next can => simp only [buildAlert_port_other, can, true_and]
  · next cannot => rw [if_neg fun h => cannot h.1]

theorem alertTest_wru (s : State) :
    (alertTest s).wru = if alertCanBuild s then (alertFormed s).wru else s.wru := by
  rw [alertTest, apply_ite State.wru, buildAlert_wru_eq]

theorem buildReport_rpe (s : State) : (buildReport s).rpe = { s.rpe with
    buffer := reportFrame s
    inFlight := some ⟨false, s.mgu.station.collectorPort, reportSize s, firstSequence s⟩
    seq := s.rpe.seq + 1
    timerDue := false
    reportNow := false
    ctr := { s.rpe.ctr with built := bump s.rpe.ctr.built } } := rfl

theorem dueCheck_port_collector (s : State) : (dueCheck s).port s.mgu.station.collectorPort =
    { s.port s.mgu.station.collectorPort with
      queue := (s.port s.mgu.station.collectorPort).queue ++
        if reportCanBuild s then [{ source := .report }] else [] } := by
  unfold dueCheck
  split
  · exact pushEntry_port_same ..
  · rw [List.append_nil]

theorem dueCheck_port_other (s : State) : (dueCheck s).port s.mgu.station.collectorPort.other =
    s.port s.mgu.station.collectorPort.other := by
  unfold dueCheck
  split
  · exact pushEntry_port_other ..
  · rfl

theorem reportCanBuild_iff (s : State) : reportCanBuild s = true ↔ s.mgu.station.collector ≠ 0 ∧
    (s.port s.mgu.station.collectorPort).link = true ∧ s.rpe.inFlight = none ∧ 0 < s.rrg.count ∧
      (s.rpe.threshold ≤ s.rrg.count ∨ s.rrg.pressure = true ∨ s.rpe.timerDue = true ∨
        s.rpe.reportNow = true) := by
  cases h : s.rpe.inFlight with
  | some r => simp [reportCanBuild, h]
  | none =>
    simp [reportCanBuild, reportIsDue, inFlightCount, h, or_assoc]
    tauto

/-- The state with the link of a port raised, no test made yet. -/
def linkRaised (p : Port) (s : State) : State := s.setPort p { s.port p with link := true }

/-- Settles O53: on the collector port the tests are those of R124 and R180 with the link of the port UP, and the
alert leaves what the due check reads as it was. -/
theorem linkUpMakesTests : Obligations.LinkUpMakesTests := by
  intro p s hlink tests alerts reports copied
  have hexec : exec (.linkUp p) s = .next (raiseLink p s) := if_neg (by simp [hlink])
  refine ⟨_, hexec, ?_⟩
  by_cases hp : p = s.mgu.station.collectorPort
  · have heq : raiseLink p s = dueCheck (alertTest (linkRaised p s)) := if_pos hp
    have hmgu : (alertTest (linkRaised p s)).mgu = s.mgu := (alertTest_frame _).2.2.2.2.2.2.2.2.1
    have hraised : (linkRaised p s).port p = { s.port p with link := true } := setPort_port_same ..
    have halerts : alertCanBuild (linkRaised p s) = true ↔ alerts := by
      rw [alertCanBuild_iff, holdOffExpired_iff, show (linkRaised p s).mgu = s.mgu from rfl, ← hp, hraised]
      simp [alerts, tests, hp, linkRaised]
      tauto
    have hport := alertTest_port_collector (linkRaised p s)
    rw [show (linkRaised p s).mgu = s.mgu from rfl, ← hp, hraised] at hport
    have hreports : reportCanBuild (alertTest (linkRaised p s)) = true ↔ reports := by
      rw [reportCanBuild_iff, hmgu, ← hp, hport]
      simp [reports, tests, hp, linkRaised]
    have hcopied : managerCopy (linkRaised p s) = .separate ↔ copied := by
      rw [(managerCopy_iff _).1, show (linkRaised p s).mgu = s.mgu from rfl, ← hp, and_assoc]
      refine and_congr_right fun _ => and_congr_right fun _ => and_congr_right fun hm => ?_
      rw [eq_other_of_ne hm, linkRaised, setPort_port_other]
    have hother := alertTest_port_other (linkRaised p s)
    rw [show (linkRaised p s).mgu = s.mgu from rfl, ← hp, show (linkRaised p s).port p.other = s.port p.other
      from setPort_port_other .., if_congr (and_congr halerts hcopied) rfl rfl] at hother
    have hportDue := dueCheck_port_collector (alertTest (linkRaised p s))
    have hotherDue := dueCheck_port_other (alertTest (linkRaised p s))
    rw [hmgu, ← hp] at hportDue hotherDue
    rw [hport, if_congr halerts rfl rfl, if_congr hreports rfl rfl] at hportDue
    rw [heq]
    refine ⟨hportDue, hotherDue.trans hother, ?_, ?_, by simp [SameBut, linkRaised]⟩
    · rw [(dueCheck_frame _).2.2.2.2.2.1, alertTest_wru, if_congr halerts rfl rfl]
      by_cases h : alerts
      · rw [if_pos h, if_pos h, hp]
        exact ⟨rfl, rfl, rfl, rfl⟩
      · rw [if_neg h, if_neg h]
        rfl
    · rw [dueCheck, if_congr hreports rfl rfl]
      by_cases h : reports
      · rw [if_pos h, if_pos h, hp]
        refine ⟨?_, ?_, rfl, rfl⟩
        · simp [buildReport_rpe, reportSize, firstSequence, linkRaised, Config.reportMax]
        · simp [buildReport_rpe, linkRaised]
      · rw [if_neg h, if_neg h]
        simp [linkRaised]
  · have heq : raiseLink p s = linkRaised p s := if_neg hp
    have hno : ¬ alerts := fun h => hp h.1.1
    have hnoReport : ¬ reports := fun h => hp h.1.1
    rw [heq]
    simp only [hno, hnoReport, false_and, if_false, List.append_nil]
    exact ⟨setPort_port_same .., setPort_port_other .., rfl, rfl, by simp [SameBut, linkRaised]⟩

end Sys2Proof.Proofs
end

section
/-! SUPPORT. The flow of octets: what the lines carry does to a port and to the frame arriving on the other. -/

namespace Sys2Proof.Proofs

open Sys2Proof Sys2Proof.Machine Sys2Proof.Safety

/-! ### A port's buffer takes a frame -/

/-- A port after a frame was put behind those of its buffer, or refused and counted (R187). -/
def Egm.enter (e : Egm) (how : Admission) (f : PassFrame) : Egm :=
  match how with
  | .room => { e with buffer := e.buffer ++ [f] }
  | .full => { e with ctr := { e.ctr with bufferFull := bump e.ctr.bufferFull } }
  | .down => { e with ctr := { e.ctr with linkDrops := bump e.ctr.linkDrops } }

theorem enterBuffer_eq (p : Port) (how : Admission) (f : PassFrame) (s : State) :
    enterBuffer p how f s = s.setPort p (Egm.enter (s.port p) how f) := by
  cases how <;> rfl

/-- The copy of a frame that passes on, of the octets received so far. -/
def passedCopy (a : Arriving) (e : Egm) : PassFrame :=
  { octets := a.octets.take (freeRoom e)
    arrival := if freeRoom e < a.octets.length then .stopped else .arriving
    ingressUptime := a.ingress.uptime }

theorem passOn_eq (p : Port) (a : Arriving) (s : State) : passOn p a s =
    (s.setPort p.other (Egm.enter (s.port p.other) a.admission (passedCopy a (s.port p.other)))).setArriving p
      (some { a with course := a.admission.course }) := by
  rw [passOn, enterBuffer_eq]
  rfl

/-! ### Octets are received -/

/-- The frame arriving on a port, and the other port, once FCL has decided what it can. -/
def decided (a : Arriving) (e : Egm) : Arriving × Egm :=
  if a.course = .undecided then
    match recognise a with
    | none => (a, e)
    | some true => ({ a with course := .forPart, octets := a.octets.take Config.frameRoom }, e)
    | some false => ({ a with course := a.admission.course }, Egm.enter e a.admission (passedCopy a e))
  else (a, e)

/-- The frame arriving on a port after more octets. -/
def Arriving.extended (a : Arriving) (o : List Byte) : Arriving :=
  { a with
    octets := if a.course = .undecided then a.octets ++ o else (a.octets ++ o).take Config.frameRoom
    count := a.count + o.length }

/-- The frame arriving on a port, and the other port, after octets were received there. -/
def received (a : Option Arriving) (e : Egm) (o : List Byte) : Option Arriving × Egm :=
  match a with
  | none => (none, e)
  | some a =>
    let d := decided (Arriving.extended a o) (if a.course = .passed then e.write o else e)
    (some d.1, d.2)

theorem decideCourse_received {p : Port} {a : Arriving} {s : State} (h : s.arriving p = some a) :
    (decideCourse p s).arriving p = some (decided a (s.port p.other)).1 ∧
      (decideCourse p s).port p.other = (decided a (s.port p.other)).2 := by
  unfold decideCourse decided
  rw [h]
  by_cases hc : a.course = .undecided
  · simp only [if_pos hc]
    cases recognise a with
    | none => exact ⟨h, rfl⟩
    | some b =>
      cases b with
      | true => exact ⟨setArriving_arriving_same .., rfl⟩
      | false =>
        simp only [passOn_eq]
        exact ⟨setArriving_arriving_same .., setPort_port_same ..⟩
  · simp only [if_neg hc, h, and_self]

theorem receiveOctets_received (p : Port) (o : List Byte) (s : State) :
    (receiveOctets p o s).arriving p = (received (s.arriving p) (s.port p.other) o).1 ∧
      (receiveOctets p o s).port p.other = (received (s.arriving p) (s.port p.other) o).2 := by
  unfold receiveOctets received takeOctets
  cases h : s.arriving p with
  | none => simp [decideCourse, h]
  | some a =>
    dsimp only
    have hdecide (u : State) (e : Egm) (hu : u.arriving p = some (Arriving.extended a o))
        (he : u.port p.other = e) : (decideCourse p u).arriving p = some (decided (Arriving.extended a o) e).1 ∧
          (decideCourse p u).port p.other = (decided (Arriving.extended a o) e).2 := he ▸ decideCourse_received hu
    split
    · exact hdecide (State.setPort _ _ _) _ (setArriving_arriving_same ..) (setPort_port_same ..)
    · exact hdecide _ _ (setArriving_arriving_same ..) rfl

theorem receiveOctets_elsewhere (p : Port) (o : List Byte) (s : State) :
    (receiveOctets p o s).arriving p.other = s.arriving p.other ∧ (receiveOctets p o s).port p = s.port p := by
  have hdecide (u : State) : (decideCourse p u).arriving p.other = u.arriving p.other ∧
      (decideCourse p u).port p = u.port p := by
    rcases decideCourse_cases p u with h | ⟨a, _, _, ⟨_, h⟩ | ⟨_, h⟩⟩
    · simp [h]
    · simp [h]
    · rw [h, passOn_eq]
      exact ⟨setArriving_arriving_other .., setPort_port_ne _ _ _ _ (port_ne_other p)⟩
  have htake : (takeOctets p o s).arriving p.other = s.arriving p.other ∧ (takeOctets p o s).port p = s.port p := by
    unfold takeOctets
    split
    · exact ⟨rfl, rfl⟩
    · dsimp only
      split
      · exact ⟨setArriving_arriving_other .., setPort_port_ne _ _ _ _ (port_ne_other p)⟩
      · exact ⟨setArriving_arriving_other .., rfl⟩
  exact ⟨(hdecide _).1.trans htake.1, (hdecide _).2.trans htake.2⟩

/-! ### A command's flow -/

theorem applyFlow_arriving (fl : Flow) (s : State) (p : Port) :
    (applyFlow fl s).arriving p = (received (s.arriving p) (s.port p.other) (fl.rx.get p)).1 := by
  have hu := receiveOctets_elsewhere .u fl.rx.u s
  cases p with
  | u => exact (receiveOctets_elsewhere .k fl.rx.k _).1.trans (receiveOctets_received .u fl.rx.u s).1
  | k =>
    have hk := (receiveOctets_received .k fl.rx.k (receiveOctets .u fl.rx.u s)).1
    rw [show (receiveOctets .u fl.rx.u s).arriving .k = s.arriving .k from hu.1,
      show (receiveOctets .u fl.rx.u s).port Port.k.other = s.port .u from hu.2] at hk
    exact hk

theorem applyFlow_port_other (fl : Flow) (s : State) (p : Port) : (applyFlow fl s).port p.other =
    (received (s.arriving p) (s.port p.other) (fl.rx.get p)).2.send (fl.tx.get p.other) := by
  have hu := receiveOctets_elsewhere .u fl.rx.u s
  cases p with
  | u => 
    have hk := (receiveOctets_elsewhere .k fl.rx.k (receiveOctets .u fl.rx.u s)).2
    exact congrArg (Egm.send · fl.tx.k) (hk.trans (receiveOctets_received .u fl.rx.u s).2)
  | k =>
    have hk := (receiveOctets_received .k fl.rx.k (receiveOctets .u fl.rx.u s)).2
    rw [show (receiveOctets .u fl.rx.u s).arriving .k = s.arriving .k from hu.1,
      show (receiveOctets .u fl.rx.u s).port Port.k.other = s.port .u from hu.2] at hk
    exact congrArg (Egm.send · fl.tx.u) hk

theorem applyFlow_port (fl : Flow) (s : State) (p : Port) : (applyFlow fl s).port p =
    (received (s.arriving p.other) (s.port p) (fl.rx.get p.other)).2.send (fl.tx.get p) := by
  simpa using applyFlow_port_other fl s p.other

/-! ### What the flow leaves of a port and of FCL -/

theorem send_eq (e : Egm) (n : Nat) : e.send n = { e with egress := (e.send n).egress } := by
  unfold Egm.send
  repeat' split
  all_goals rfl

@[simp] theorem send_buffer (e : Egm) (n : Nat) : (e.send n).buffer = e.buffer := by rw [send_eq]
@[simp] theorem send_ctr (e : Egm) (n : Nat) : (e.send n).ctr = e.ctr := by rw [send_eq]
@[simp] theorem send_link (e : Egm) (n : Nat) : (e.send n).link = e.link := by rw [send_eq]
@[simp] theorem send_queue (e : Egm) (n : Nat) : (e.send n).queue = e.queue := by rw [send_eq]
@[simp] theorem send_deferMark (e : Egm) (n : Nat) : (e.send n).deferMark = e.deferMark := by rw [send_eq]
@[simp] theorem send_departed (e : Egm) (n : Nat) : (e.send n).departed = e.departed := by rw [send_eq]

theorem send_of_idle {e : Egm} (h : e.egress = none) (n : Nat) : e.send n = e := by
  rw [Egm.send, h]

theorem write_eq (e : Egm) (o : List Byte) : e.write o = { e with buffer := (e.write o).buffer } := by
  unfold Egm.write
  repeat' split
  all_goals rfl

theorem enter_eq (e : Egm) (how : Admission) (f : PassFrame) : Egm.enter e how f =
    { e with buffer := (Egm.enter e how f).buffer, ctr := (Egm.enter e how f).ctr } := by
  cases how <;> rfl

/-- Octets that are received touch the buffer and the counters of the other port alone. -/
theorem received_eq (a : Option Arriving) (e : Egm) (o : List Byte) : (received a e o).2 =
    { e with buffer := (received a e o).2.buffer, ctr := (received a e o).2.ctr } := by
  have hdecided (b : Arriving) (e : Egm) : (decided b e).2 =
      { e with buffer := (decided b e).2.buffer, ctr := (decided b e).2.ctr } := by
    unfold decided
    split
    · split
      · rfl
      · rfl
      · exact enter_eq ..
    · rfl
  unfold received
  split
  · rfl
  · dsimp only
    split
    · rw [hdecided, write_eq]
    · exact hdecided ..

/-- The flow of a command leaves the queue, the link and the settings of a port, and what has departed. -/
theorem applyFlow_port_eq (fl : Flow) (s : State) (p : Port) : (applyFlow fl s).port p =
    { s.port p with
      buffer := ((applyFlow fl s).port p).buffer
      ctr := ((applyFlow fl s).port p).ctr
      egress := ((applyFlow fl s).port p).egress } := by
  rw [applyFlow_port, send_eq, received_eq]

@[simp] theorem applyFlow_link (fl : Flow) (s : State) (p : Port) :
    ((applyFlow fl s).port p).link = (s.port p).link := by rw [applyFlow_port_eq]

@[simp] theorem applyFlow_queue (fl : Flow) (s : State) (p : Port) :
    ((applyFlow fl s).port p).queue = (s.port p).queue := by rw [applyFlow_port_eq]

theorem applyFlow_egress_none {fl : Flow} {s : State} {p : Port} (h : (s.port p).egress = none) :
    ((applyFlow fl s).port p).egress = none := by
  rw [applyFlow_port, received_eq, Egm.send, h]

/-- An originated frame in egress stays it, whatever octets of it leave. -/
theorem applyFlow_egress_own {fl : Flow} {s : State} {p : Port} {src : Source} {o : List Byte} {k : Nat}
    (h : (s.port p).egress = some (.own src o k)) :
    ∃ k', ((applyFlow fl s).port p).egress = some (.own src o k') := by
  rw [applyFlow_port, received_eq, Egm.send, h]
  exact ⟨_, rfl⟩

/-- The flow of a command leaves FCL's counters and filters. -/
theorem applyFlow_fcl (fl : Flow) (s : State) :
    (applyFlow fl s).fcl = { s.fcl with arriving := (applyFlow fl s).fcl.arriving } := by
  have hdecide (p : Port) (u : State) : (decideCourse p u).fcl =
      { u.fcl with arriving := (decideCourse p u).fcl.arriving } := by
    rcases decideCourse_cases p u with h | ⟨a, _, _, ⟨_, h⟩ | ⟨_, h⟩⟩
    · rw [h]
    · rw [h]
      rfl
    · rw [h, passOn_eq]
      rfl
  have htake (p : Port) (o : List Byte) (u : State) : (takeOctets p o u).fcl =
      { u.fcl with arriving := (takeOctets p o u).fcl.arriving } := by
    unfold takeOctets
    split
    · rfl
    · dsimp only
      split <;> rfl
  have hreceive (p : Port) (o : List Byte) (u : State) : (receiveOctets p o u).fcl =
      { u.fcl with arriving := (receiveOctets p o u).fcl.arriving } := by
    rw [receiveOctets, hdecide, htake]
  have hk := hreceive .k fl.rx.k (receiveOctets .u fl.rx.u s)
  rw [hreceive .u] at hk
  exact hk

@[simp] theorem applyFlow_filters (fl : Flow) (s : State) : (applyFlow fl s).fcl.filters = s.fcl.filters := by
  rw [applyFlow_fcl]

@[simp] theorem applyFlow_masks (fl : Flow) (s : State) : (applyFlow fl s).fcl.masks = s.fcl.masks := by
  rw [applyFlow_fcl]

@[simp] theorem applyFlow_ctr (fl : Flow) (s : State) : (applyFlow fl s).fcl.ctr = s.fcl.ctr := by
  rw [applyFlow_fcl]

end Sys2Proof.Proofs
end

section
/-! SUPPORT. The frame path: the start of a frame, FCL's decision, a head frame that becomes ready and the
transit walk, with their settled statements. -/

namespace Sys2Proof.Proofs

open Sys2Proof Sys2Proof.Machine Sys2Proof.Safety

/-! ### A head frame becomes ready (R188) -/

/-- Octets that find room are written whole to a buffer's only frame. -/
theorem write_of_room {e : Egm} {f : PassFrame} {o : List Byte} (hbuffer : e.buffer = [f])
    (harriving : f.arrival = .arriving) (hroom : o.length ≤ freeRoom e) :
    e.write o = { e with buffer := [{ f with octets := f.octets ++ o }] } := by
  simp [Egm.write, hbuffer, harriving, List.take_of_length_le hroom, Nat.not_lt.mpr hroom]

/-- Settles O30: the octets find room, so that the head frame reaches 64 and is ready. -/
theorem headFrameBecomesReady : Obligations.HeadFrameBecomesReady := by
  intro p flow s a f harrival hcourse hbuffer harriving hidle hqueue hfits hready
  have hroom : (flow.rx.get p.other).length ≤ freeRoom (s.port p) := by
    simp only [freeRoom, occupancy, hbuffer, List.map_cons, List.map_nil, List.sum_cons, List.sum_nil]
    have hsize : Config.bufferOctets = 32768 := rfl
    omega
  have hport : (applyFlow flow s).port p =
      { s.port p with buffer := [{ f with octets := f.octets ++ flow.rx.get p.other }] } := by
    have hundecided : (Arriving.extended a (flow.rx.get p.other)).course ≠ .undecided := by
      rw [Arriving.extended, hcourse]
      exact nofun
    rw [applyFlow_port, harrival]
    simp only [received, hcourse, if_true, decided, if_neg hundecided, write_of_room hbuffer harriving hroom]
    exact send_of_idle (by exact hidle) _
  have hhead : headReady ((applyFlow flow s).port p) = true := by
    simp only [hport, headReady, PassFrame.ready, List.length_append, Bool.or_eq_true, decide_eq_true_eq]
    exact .inl hready
  refine ⟨_, rfl, by rw [hport], hhead, ?_, by simp [SameBut]⟩
  rw [choose, choosePlain, hhead, applyFlow_queue, hqueue]
  rfl

/-! ### FCL's decision (R57) -/

section
variable {a : Arriving} (hcourse : a.course = .undecided) {e : Egm}
include hcourse

theorem decided_open (h : recognise a = none) : decided a e = (a, e) := by
  rw [decided, if_pos hcourse, h]

theorem decided_forPart (h : recognise a = some true) :
    decided a e = ({ a with course := .forPart, octets := a.octets.take Config.frameRoom }, e) := by
  rw [decided, if_pos hcourse, h]

theorem decided_passed (h : recognise a = some false) :
    decided a e = ({ a with course := a.admission.course }, Egm.enter e a.admission (passedCopy a e)) := by
  rw [decided, if_pos hcourse, h]

end

/-- What is known of a frame's course from its octets. -/
theorem recognise_eq (a : Arriving) : recognise a =
    if a.octets.length < headerAt a.settings a.octets then none
    else if isGtp a.settings a.octets then
      if a.octets.length < headerAt a.settings a.octets + 2 then none
      else some (isForPart a.settings a.octets)
    else some false := by
  have h14 : 14 ≤ headerAt a.settings a.octets := by
    unfold headerAt typeAt
    split <;> decide
  have htype : typeReceived a = !decide (a.octets.length < headerAt a.settings a.octets) := by
    rw [typeReceived, Bool.eq_iff_iff]
    simp
    omega
  unfold recognise
  rw [htype]
  simp only [← Nat.not_lt, Bool.not_eq_true', decide_eq_false_iff_not, ite_not]

/-- The length of the tag that FCL recognises. -/
def tagLength (cfg : FrameSettings) (l : List Byte) : Nat := if tagged cfg l then 4 else 0

theorem typeAt_eq (cfg : FrameSettings) (l : List Byte) : typeAt cfg l = 12 + tagLength cfg l := by
  unfold typeAt tagLength
  split <;> rfl

theorem headerAt_eq (cfg : FrameSettings) (l : List Byte) : headerAt cfg l = 14 + tagLength cfg l := by
  rw [headerAt, typeAt_eq]
  omega

theorem isForPart_iff (cfg : FrameSettings) (l : List Byte) : isForPart cfg l = true ↔
    (destination l = cfg.own ∧ cfg.own ≠ 0) ∨ (gtpKind cfg l = 1 ∧ cfg.group ≠ 0 ∧ destination l = cfg.group) ∨
      (gtpKind cfg l = 5 ∧ destination l = BitVec.allOnes 48 ∧ cfg.own = 0) := by
  simp [isForPart, broadcast, or_assoc, and_assoc]

/-- Settles O28: the octets that came and those the command brings are what FCL reads. -/
theorem forPartDecided : Obligations.ForPartDecided := by
  intro p flow s a harriving hcourse cfg l count tag gtp kind forPart e room
  refine ⟨_, rfl, rfl, by simp [SameBut], ?_⟩
  have hext : Arriving.extended a (flow.rx.get p) = { a with octets := l, count := count } := by
    rw [Arriving.extended, if_pos hcourse]
  have hreceived : received (s.arriving p) (s.port p.other) (flow.rx.get p) =
      (some (decided { a with octets := l, count := count } e).1,
        (decided { a with octets := l, count := count } e).2) := by
    rw [harriving]
    simp only [received, hext, hcourse]
    rfl
  have htag : tagLength cfg l = tag := by simp [tagLength, tagged, tag, cfg]
  have hgtp : isGtp cfg l = true ↔ gtp := by
    rw [isGtp, typeAt_eq, htag, beq_iff_eq]
  have hpart : gtp → (isForPart cfg l = true ↔ forPart) := fun h => by
    rw [isForPart_iff, gtpKind, headerAt_eq, htag, show 14 + tag + 1 = 15 + tag by omega]
    exact (and_iff_right h).symm
  have hrecognise : recognise { a with octets := l, count := count } =
      if l.length < 14 + tag ∨ (gtp ∧ l.length < 16 + tag) then none else some (decide forPart) := by
    rw [recognise_eq]
    change (if l.length < headerAt cfg l then none else if isGtp cfg l then
      if l.length < headerAt cfg l + 2 then none else some (isForPart cfg l) else some false) = _
    rw [headerAt_eq, htag, show 14 + tag + 2 = 16 + tag by omega]
    by_cases hg : gtp
    · have hsame : isForPart cfg l = decide forPart := by rw [Bool.eq_iff_iff, hpart hg, decide_eq_true_iff]
      simp only [if_pos (hgtp.mpr hg), hg, true_and, hsame]
      split_ifs <;> grind
    · have hnot : ¬ forPart := fun h => hg h.1
      simp only [if_neg fun h => hg (hgtp.mp h), hg, false_and, or_false, hnot, decide_false]
  rw [applyFlow_arriving, applyFlow_port_other, hreceived, send_buffer, send_ctr]
  by_cases hopen : l.length < 14 + tag ∨ (gtp ∧ l.length < 16 + tag)
  · rw [if_pos hopen, decided_open (a := { a with octets := l, count := count }) hcourse (hrecognise.trans (if_pos hopen))]
    exact ⟨rfl, rfl, rfl⟩
  · rw [if_neg hopen] at hrecognise ⊢
    by_cases hfor : forPart
    · rw [if_pos hfor,
        decided_forPart (a := { a with octets := l, count := count }) hcourse (hrecognise.trans (by rw [decide_eq_true hfor]))]
      exact ⟨rfl, rfl, rfl⟩
    · rw [if_neg hfor,
        decided_passed (a := { a with octets := l, count := count }) hcourse (hrecognise.trans (by rw [decide_eq_false hfor]))]
      dsimp only
      cases a.admission with
      | room => exact ⟨rfl, rfl, rfl⟩
      | full => exact ⟨rfl, rfl, rfl⟩
      | down => exact ⟨rfl, rfl, rfl⟩

/-! ### The start of a frame (R6, R52, R187) -/

theorem admission_eq (e : Egm) (need : Nat) : admission e need =
    if e.link = false then .down else if need ≤ 32768 - occupancy e then .room else .full := by
  cases h : e.link <;> simp [admission, h, freeRoom]
  rfl

/-- The frame that begins on a port now, the other port being as it is given. -/
def startedFrame (p : Port) (first : Byte) (s : State) (e : Egm) : Arriving :=
  { ingress := ingressRecord p s
    settings := frameSettings s
    transparent := s.mgu.reading
    admission := admission e Config.frameRoom
    octets := [first]
    count := 1 }

theorem startedFrame_applyFlow (p : Port) (first : Byte) (fl : Flow) (s : State) (e : Egm) :
    startedFrame p first (applyFlow fl s) e = startedFrame p first s e := by
  simp [startedFrame, ingressRecord, ingressStamp, frameSettings,
    quality_of_eq (s := s) (t := applyFlow fl s) (by simp) (by simp)]

theorem exec_frameStart {p : Port} {flow : Flow} {s : State} (hlink : ((applyFlow flow s).port p).link = true)
    (hnone : (applyFlow flow s).arriving p = none) (first : Byte) : exec (.frameStart p flow first) s =
      .next (if s.mgu.reading then
          passOn p (startedFrame p first s ((applyFlow flow s).port p.other)) (applyFlow flow s)
        else (applyFlow flow s).setArriving p
          (some (startedFrame p first s ((applyFlow flow s).port p.other)))) := by
  rw [← startedFrame_applyFlow p first flow s, ← (applyFlow_frame s flow).2.2.2.2.2.2.2.2.1]
  exact if_pos (by simp [hlink, hnone])

/-- A frame of one octet for which there is room is copied whole. -/
theorem passedCopy_of_one {a : Arriving} {e : Egm} {first : Byte} (hone : a.octets = [first])
    (hroom : 0 < freeRoom e) :
    passedCopy a e = { octets := [first], ingressUptime := a.ingress.uptime } := by
  have hle : [first].length ≤ freeRoom e := hroom
  have hnot : ¬ freeRoom e < [first].length := Nat.not_lt.mpr hle
  rw [passedCopy, hone, List.take_of_length_le hle, if_neg hnot]

/-- Settles O27: in ACTIVE mode the frame is kept open, in TRANSPARENT mode it passes on at once. -/
theorem frameStartTakesRecord : Obligations.FrameStartTakesRecord := by
  intro p flow first s s1 hlink hnone e station how
  have hfcl : s1.fcl = { s.fcl with arriving := s1.fcl.arriving } := applyFlow_fcl flow s
  have hhow : admission e Config.frameRoom = how := admission_eq ..
  refine ⟨_, exec_frameStart hlink hnone first, ?_⟩
  have hctr : s1.fcl.ctr = s.fcl.ctr := by rw [hfcl]
  have hfilters : s1.fcl.filters = s.fcl.filters := by rw [hfcl]
  cases hreading : s.mgu.reading with
  | false =>
    rw [if_neg Bool.false_ne_true, if_neg Bool.false_ne_true, if_pos rfl]
    refine ⟨by simp [SameBut], setArriving_arriving_other .., hctr, hfilters, rfl, ?_, rfl⟩
    rw [setArriving_arriving_same, startedFrame, hhow, hreading]
    rfl
  | true =>
    rw [if_pos rfl, if_pos rfl, if_neg Bool.true_eq_false.mp, passOn_eq]
    refine ⟨by simp [SameBut], setArriving_arriving_other .., hctr, hfilters,
      setPort_port_ne _ _ _ _ (port_ne_other p), ?_, ?_⟩
    · rw [setArriving_arriving_same, startedFrame, hhow, hreading]
      cases how <;> rfl
    · rw [setArriving_port, setPort_port_same]
      have hadmission : (startedFrame p first s e).admission = how := hhow
      rw [hadmission]
      by_cases hroom : how = .room
      · have hfree : 0 < freeRoom e := by
          have hneed : 9220 ≤ 32768 - occupancy e := by
            by_contra hno
            simp only [how, if_neg hno] at hroom
            split at hroom <;> cases hroom
          exact Nat.lt_of_lt_of_le (by decide) hneed
        rw [if_pos hroom, hroom, passedCopy_of_one (first := first) rfl hfree]
        rfl
      · rw [if_neg hroom]
        cases h : how with
        | room => exact absurd h hroom
        | full => rfl
        | down => rfl

end Sys2Proof.Proofs
end

section
/-! SUPPORT. The frame path: the walks over the filters and the ends of a frame, with their settled
statements. -/

namespace Sys2Proof.Proofs

open Sys2Proof Sys2Proof.Machine Sys2Proof.Safety

/-! ### A buffer's last frame -/

theorem setPort_self (s : State) (p : Port) : s.setPort p (s.port p) = s := by
  cases p <;> rfl

/-- A port with the last frame of its buffer changed. -/
def lastChanged (f : PassFrame → PassFrame) (e : Egm) : Egm :=
  { e with buffer := e.buffer.dropLast ++ e.buffer.getLast?.toList.map f }

theorem changeLast_eq (p : Port) (f : PassFrame → PassFrame) (s : State) :
    changeLast p f s = s.setPort p (lastChanged f (s.port p)) := by
  unfold changeLast lastChanged
  cases h : (s.port p).buffer.getLast? with
  | none =>
    rw [List.getLast?_eq_none_iff] at h
    have hsame : s.port p = { s.port p with buffer := [] } := by rw [← h]
    simp only [h, List.dropLast_nil, Option.toList_none, List.map_nil, List.append_nil]
    rw [← hsame, setPort_self]
  | some x => rfl

theorem lastChanged_append (f : PassFrame → PassFrame) (e : Egm) (x : PassFrame) :
    lastChanged f { e with buffer := e.buffer ++ [x] } = { e with buffer := e.buffer ++ [f x] } := by
  simp [lastChanged]

/-! ### The walks over the filters (R65) -/

theorem walkFirst_of_first {masks : List (BitVec 32)} {stops : Action → Bool} {key : BitVec 32} {fs : List Filter}
    {f : Filter} {i : Nat} (hf : fs[i]? = some f) (hcovers : f.covers masks key = true)
    (hstops : stops f.action = true)
    (hbefore : ∀ j < i, ∀ g ∈ fs[j]?, g.covers masks key = true → stops g.action = false) (k : Nat) :
    walkFirst masks stops key fs k = some (k + i, f) := by
  induction fs generalizing i k with
  | nil => cases hf
  | cons x fs ih =>
    cases i with
    | zero =>
      obtain rfl : x = f := Option.some.inj hf
      rw [walkFirst, hcovers, hstops]
      rfl
    | succ i =>
      have hx : ¬ (x.covers masks key && stops x.action) = true := fun h => by
        rw [Bool.and_eq_true] at h
        exact Bool.false_ne_true ((hbefore 0 (Nat.succ_pos i) x rfl h.1).symm.trans h.2)
      rw [walkFirst, if_neg hx,
        ih hf (fun j hj g hg => hbefore (j + 1) (Nat.succ_lt_succ hj) g hg) (k + 1)]
      simp only [Option.some.injEq, Prod.mk.injEq, and_true]
      omega

theorem modify_of_getElem? {α : Type} {l : List α} {i : Nat} {x : α} (h : l[i]? = some x) (f : α → α) :
    l.modify i f = l.set i (f x) := by
  rw [List.modify_eq_set_getElem?, h]
  rfl

/-- Settles O29: the first filter that stops the walk is the TRANSIT one, and the frame passes. -/
theorem transitWalkMarks : Obligations.TransitWalkMarks := by
  intro p flow s a i f x s1 harriving hdue hcourse hlast hf htransit hcovers hbefore
  have hwalk : walkFirst s1.fcl.masks stopsTransit (gtpKey a.settings a.octets) s1.fcl.filters 0 = some (i, f) := by
    rw [applyFlow_filters, applyFlow_masks, walkFirst_of_first hf hcovers (by rw [htransit]; rfl), Nat.zero_add]
    intro j hj g hg hc
    obtain ⟨hnotTransit, hnotPass⟩ := hbefore j hj g hg hc
    cases h : g.action with
    | transit => exact absurd h hnotTransit
    | pass => exact absurd h hnotPass
    | answer => rfl
    | date => rfl
  have hexec : exec (.gtpTransitWalk p flow) s = .next (transitWalk p a s1) := by
    simp only [exec, execGtpTransitWalk]
    rw [show (applyFlow flow s).arriving p = some a from harriving]
    exact congrArg _ (if_pos hdue)
  have heq : transitWalk p a s1 = changeLast p.other
      (fun x => { x with transit := some (residenceAt a.settings a.octets) })
      (countHit i (s1.setArriving p (some { a with walked := true }))) := by
    simp only [transitWalk, setArriving_fcl, hwalk, htransit, hcourse]
    rfl
  refine ⟨_, hexec, ?_⟩
  rw [heq, changeLast_eq]
  refine ⟨?_, ?_, ?_, setPort_port_ne _ _ _ _ (port_ne_other p), ?_⟩
  · exact (congrArg (List.modify · i _) (applyFlow_filters flow s)).trans (modify_of_getElem? hf _)
  · exact setArriving_arriving_same ..
  · rw [setPort_port_same]
    simp only [lastChanged, show ∀ t : State, (countHit i t).port p.other = t.port p.other from fun _ => rfl,
      setArriving_port, hlast]
    rfl
  · simp [SameBut, s1]

/-! ### The end of a frame (R53, R58) -/

/-- The ingress counters of a port after a frame has ended there. -/
def countedEnd (a : Arriving) (how : Arrival) (c : IngressCounters) : IngressCounters :=
  if a.transparent then c else { c with
    framesIn := bump c.framesIn
    badEnds := if how = .good then c.badEnds else bump c.badEnds }

section
variable (p : Port) (a : Arriving) (how : Arrival) (s : State)

theorem closeArrival_fcl : (closeArrival p a how s).fcl = { s.fcl with
    arriving := s.fcl.arriving.set p none
    ctr := if a.transparent then s.fcl.ctr else s.fcl.ctr.set p (countedEnd a how (s.fcl.ctr.get p)) } := by
  unfold closeArrival countedEnd
  cases a.transparent <;> simp only [changeLast_eq] <;> split <;> rfl

theorem closeArrival_arriving : (closeArrival p a how s).arriving p = none := by
  rw [State.arriving, closeArrival_fcl]
  exact perPort_get_set_same ..

theorem closeArrival_arriving_other : (closeArrival p a how s).arriving p.other = s.arriving p.other := by
  rw [State.arriving, closeArrival_fcl]
  exact perPort_get_set_other ..

theorem closeArrival_ctr :
    (closeArrival p a how s).fcl.ctr.get p = countedEnd a how (s.fcl.ctr.get p) := by
  rw [closeArrival_fcl]
  unfold countedEnd
  cases a.transparent
  · exact perPort_get_set_same ..
  · rfl

theorem closeArrival_ctr_other : (closeArrival p a how s).fcl.ctr.get p.other = s.fcl.ctr.get p.other := by
  rw [closeArrival_fcl]
  cases a.transparent
  · exact perPort_get_set_other ..
  · rfl

theorem closeArrival_filters : (closeArrival p a how s).fcl.filters = s.fcl.filters := by
  rw [closeArrival_fcl]

theorem closeArrival_port : (closeArrival p a how s).port p = s.port p := by
  unfold closeArrival
  cases a.transparent <;> simp only [changeLast_eq] <;> split
  all_goals first | rfl | exact setPort_port_ne _ _ _ _ (port_ne_other p)

theorem closeArrival_egm {a : Arriving} (h : a.course ≠ .passed) (p : Port) (how : Arrival) (s : State) :
    (closeArrival p a how s).egm = s.egm := by
  unfold closeArrival
  cases a.transparent <;> simp only [if_neg h] <;> rfl

theorem countIngress_ctr (f : IngressCounters → IngressCounters) :
    (s.countIngress p f).fcl.ctr.get p = f (s.fcl.ctr.get p) := perPort_get_set_same ..

theorem closeArrival_port_other : (closeArrival p a how s).port p.other =
    if a.course = .passed then lastChanged (PassFrame.endAs how) (s.port p.other) else s.port p.other := by
  unfold closeArrival
  cases a.transparent <;> simp only [changeLast_eq] <;> split
  all_goals first | rfl | exact setPort_port_same ..

end

/-! ### A frame without handling of its own (R53, R59, R60) -/

theorem exec_frameEnd {c : EndClass} {p : Port} {flow : Flow} {a : Arriving} {s : State}
    (h : EndsGoodAs c p flow a s) (hplain : endsPlain c = true) :
    exec (.frameEnd p flow) s = .next (countDropped p c (ended p flow a s)) := by
  have heq := endsGood_eq h hplain fun a s => countDropped p (endClass a) s
  obtain ⟨_, _, rfl⟩ := h
  exact congrArg Host.Outcome.next heq

theorem countedEnd_good {a : Arriving} (h : a.transparent = false) (c : IngressCounters) :
    countedEnd a .good c = { c with framesIn := bump c.framesIn } := by
  rw [countedEnd, h]
  rfl

theorem transparent_of_endClass {a : Arriving} {c : EndClass} (h : endClass a = c) (hc : c ≠ .transparent) :
    a.transparent = false := by
  rw [← Bool.not_eq_true]
  intro ht
  rw [endClass, if_pos ht] at h
  exact hc h.symm

/-- A copy in pass-through of a frame that ended good is complete. -/
theorem ended_pass {p : Port} {flow : Flow} {a : Arriving} {s : State} {c : EndClass} {x : PassFrame}
    (hclass : endClass a = c) (hc : c ≠ .transparent) (hcourse : a.course = .passed)
    (hlast : ((applyFlow flow s).port p.other).buffer.getLast? = some x) (harriving : x.arrival = .arriving) :
    (ended p flow a s).arriving p = none ∧
      (ended p flow a s).fcl.ctr.get p =
        { s.fcl.ctr.get p with framesIn := bump (s.fcl.ctr.get p).framesIn } ∧
      ((ended p flow a s).port p.other).buffer = ((applyFlow flow s).port p.other).buffer.dropLast ++
        [{ x with arrival := .good }] ∧
      (ended p flow a s).fcl.filters = s.fcl.filters ∧ (ended p flow a s).port p = (applyFlow flow s).port p ∧
      SameBut [.fcl, .egm] s (ended p flow a s) := by
  refine ⟨closeArrival_arriving .., ?_, ?_, ?_, closeArrival_port .., by simp [SameBut]⟩
  · rw [ended, closeArrival_ctr, countedEnd_good (transparent_of_endClass hclass hc), applyFlow_ctr]
  · rw [ended, closeArrival_port_other, if_pos hcourse]
    simp [lastChanged, hlast, PassFrame.endAs, harriving]
  · rw [ended, closeArrival_filters, applyFlow_filters]

theorem forPartClass_of_malformed {a : Arriving} (h : isMalformed a = true) : forPartClass a = .malformed :=
  if_pos h

theorem forPartClass_of_kind {a : Arriving} (h : isMalformed a = false) {k : Nat}
    (hk : gtpKind a.settings a.octets = k) (hkind : k = 2 ∨ k = 3 ∨ k = 6 ∨ k = 7 ∨ k = 8) :
    forPartClass a = .misdirected := by
  rw [forPartClass, h, hk]
  rcases hkind with rfl | rfl | rfl | rfl | rfl <;> rfl

/-- Settles O31: the class of the frame decides what its end does. -/
theorem plainFrameEnds : Obligations.PlainFrameEnds := by
  intro p flow s a s1 counted
  refine ⟨?_, ?_⟩
  · rintro x (hends | hends) hcourse hlast harriving
    · exact ⟨_, exec_frameEnd hends rfl, ended_pass hends.2.2 nofun hcourse hlast harriving⟩
    · exact ⟨_, exec_frameEnd hends rfl, ended_pass hends.2.2 nofun hcourse hlast harriving⟩
  · intro harriving hcourse htransparent hgood h kind length malformed hdropped
    have hclass : endClass a = forPartClass a := by simp [endClass, htransparent, hcourse]
    have hcan : canEndGood a = true := by simp [canEndGood, hgood]
    have hmalformed : isMalformed a = true ↔ malformed := by
      simp only [isMalformed, Bool.or_eq_true, Bool.and_eq_true, decide_eq_true_eq, bne_iff_ne, beq_iff_eq, or_assoc]
      rfl
    have hegm : (ended p flow a s).egm = s1.egm := closeArrival_egm (by rw [hcourse]; exact nofun) ..
    have hcounted : (ended p flow a s).fcl.ctr.get p = counted := by
      rw [ended, closeArrival_ctr, countedEnd_good htransparent, applyFlow_ctr]
    have hfilters : (ended p flow a s).fcl.filters = s.fcl.filters := by
      rw [ended, closeArrival_filters, applyFlow_filters]
    by_cases hm : malformed
    · have hends : EndsGoodAs .malformed p flow a s :=
        ⟨harriving, hcan, hclass.trans (forPartClass_of_malformed (hmalformed.mpr hm))⟩
      refine ⟨_, exec_frameEnd hends rfl, closeArrival_arriving .., ?_, hfilters, hegm, by simp [SameBut, countDropped]⟩
      rw [countDropped, countIngress_ctr, hcounted, if_pos hm]
    · have hkind := hdropped.resolve_left hm
      have hends : EndsGoodAs .misdirected p flow a s :=
        ⟨harriving, hcan, hclass.trans (forPartClass_of_kind (by rwa [← Bool.not_eq_true, hmalformed]) rfl hkind)⟩
      refine ⟨_, exec_frameEnd hends rfl, closeArrival_arriving .., ?_, hfilters, hegm, by simp [SameBut, countDropped]⟩
      rw [countDropped, countIngress_ctr, hcounted, if_neg hm]

/-! ### A bad end (R54) -/

theorem countedEnd_bad {how : Arrival} (h : how ≠ .good) (a : Arriving) : countedEnd a how = countedBad a := by
  funext c
  unfold countedEnd countedBad
  rw [if_neg h]

theorem moveToBuffer_eq (p : Port) (a : Arriving) (how : Arrival) (s : State) : moveToBuffer p a how s =
    s.setPort p.other (Egm.enter (s.port p.other) (admission (s.port p.other) a.octets.length)
      { octets := a.octets, arrival := how, ingressUptime := a.ingress.uptime }) := enterBuffer_eq ..

theorem forwardedBad_passed {a : Arriving} (h : a.course = .passed) (how : Arrival) (e : Egm) :
    forwardedBad a how e = lastChanged (PassFrame.endAs how) e := by
  have hend (x : PassFrame) : { x with arrival := if x.arrival = .arriving then how else x.arrival } =
      PassFrame.endAs how x := by
    unfold PassFrame.endAs
    split <;> rfl
  simp only [forwardedBad, h, lastChanged, hend]

theorem endAs_passedCopy (a : Arriving) (e : Egm) (how : Arrival) : PassFrame.endAs how (passedCopy a e) =
    { passedCopy a e with arrival := if freeRoom e < a.octets.length then .stopped else how } := by
  unfold PassFrame.endAs passedCopy
  by_cases h : freeRoom e < a.octets.length
  · simp only [if_pos h]
    rfl
  · simp only [if_neg h]
    rfl

theorem forwardedBad_undecided {a : Arriving} (h : a.course = .undecided) (how : Arrival) (e : Egm) :
    forwardedBad a how e =
      if a.admission.course = .passed then
        lastChanged (PassFrame.endAs how) (Egm.enter e a.admission (passedCopy a e))
      else Egm.enter e a.admission (passedCopy a e) := by
  cases hadmission : a.admission with
  | room =>
    rw [if_pos (show Admission.room.course = .passed from rfl), Egm.enter, lastChanged_append, endAs_passedCopy]
    simp only [forwardedBad, h, hadmission]
    rfl
  | full =>
    simp only [forwardedBad, h, hadmission]
    rfl
  | down =>
    simp only [forwardedBad, h, hadmission]
    rfl

theorem forwardedBad_forPart {a : Arriving} (h : a.course = .forPart) (how : Arrival) (e : Egm) :
    forwardedBad a how e = Egm.enter e (admission e a.octets.length)
      { octets := a.octets, arrival := badHow a how, ingressUptime := a.ingress.uptime } := by
  have hlimit : badHow a how = if lengthLimit a < a.count then .stopped else how := by simp [badHow, h]
  simp only [forwardedBad, h, hlimit]
  unfold admission
  have hsize : freeRoom e = 32768 - occupancy e := rfl
  by_cases hlink : e.link = true
  · have hup : ¬ e.link = false := by simp [hlink]
    rw [if_pos hlink, if_neg hup, hsize]
    split <;> rfl
  · rw [if_neg hlink, if_pos (Bool.eq_false_iff.mpr hlink)]
    rfl

/-- What the bad end of a frame does: it is counted, and its octets are forwarded. -/
structure EndedBad (p : Port) (a : Arriving) (how : Arrival) (s t : State) : Prop where
  gone : t.arriving p = none
  other : t.arriving p.other = s.arriving p.other
  counted : t.fcl.ctr.get p = countedBad a (s.fcl.ctr.get p)
  uncounted : t.fcl.ctr.get p.other = s.fcl.ctr.get p.other
  filters : t.fcl.filters = s.fcl.filters
  forwarded : t.port p.other = forwardedBad a how (s.port p.other)
  kept : t.port p = s.port p

theorem endedBad_closeArrival {p : Port} {a : Arriving} {how : Arrival} {s : State} (hhow : how ≠ .good)
    (h : forwardedBad a how (s.port p.other) =
      if a.course = .passed then lastChanged (PassFrame.endAs how) (s.port p.other) else s.port p.other) :
    EndedBad p a how s (closeArrival p a how s) where
  gone := closeArrival_arriving ..
  other := closeArrival_arriving_other ..
  counted := by rw [closeArrival_ctr, countedEnd_bad hhow]
  uncounted := closeArrival_ctr_other ..
  filters := closeArrival_filters ..
  forwarded := (closeArrival_port_other ..).trans h.symm
  kept := closeArrival_port ..

theorem endsBad_endedBad {p : Port} {a : Arriving} {how : Arrival} {s : State} (h : s.arriving p = some a)
    (hhow : how ≠ .good) : EndedBad p a how s (endsBad p how s) := by
  cases hcourse : a.course with
  | passed =>
    have heq : endsBad p how s = closeArrival p a how s := by simp only [endsBad, h, hcourse]
    rw [heq]
    exact endedBad_closeArrival hhow (by rw [if_pos hcourse, forwardedBad_passed hcourse])
  | refused =>
    have heq : endsBad p how s = closeArrival p a how s := by simp only [endsBad, h, hcourse]
    rw [heq]
    exact endedBad_closeArrival hhow (by rw [hcourse, forwardedBad, hcourse]; rfl)
  | forPart =>
    have heq : endsBad p how s = moveToBuffer p a (badHow a how) (closeArrival p a how s) := by
      simp only [endsBad, h, hcourse]
    have hport : (closeArrival p a how s).port p.other = s.port p.other := by
      rw [closeArrival_port_other, hcourse]
      rfl
    rw [heq, moveToBuffer_eq, hport]
    exact
      { gone := closeArrival_arriving ..
        other := closeArrival_arriving_other ..
        counted := (closeArrival_ctr ..).trans (by rw [countedEnd_bad hhow])
        uncounted := closeArrival_ctr_other ..
        filters := closeArrival_filters ..
        forwarded := (setPort_port_same ..).trans (forwardedBad_forPart hcourse ..).symm
        kept := (setPort_port_ne _ _ _ _ (port_ne_other p)).trans (closeArrival_port ..) }
  | undecided =>
    have heq : endsBad p how s =
        closeArrival p { a with course := a.admission.course } how (passOn p a s) := by
      simp only [endsBad, h, hcourse]
    have hport : (passOn p a s).port p.other =
        Egm.enter (s.port p.other) a.admission (passedCopy a (s.port p.other)) := by
      rw [passOn_eq]
      exact setPort_port_same ..
    rw [heq]
    exact
      { gone := closeArrival_arriving ..
        other := by rw [closeArrival_arriving_other, passOn_eq]; exact setArriving_arriving_other ..
        counted := by rw [closeArrival_ctr, countedEnd_bad hhow, passOn_eq]; rfl
        uncounted := by rw [closeArrival_ctr_other, passOn_eq]; rfl
        filters := by rw [closeArrival_filters, passOn_eq]; rfl
        forwarded := by rw [closeArrival_port_other, hport, forwardedBad_undecided hcourse]
        kept := by
          rw [closeArrival_port, passOn_eq]
          exact setPort_port_ne _ _ _ _ (port_ne_other p) }

/-- Settles O32: the command ends the frame unless its octets make it good. -/
theorem badFrameForwarded : Obligations.BadFrameForwarded := by
  intro p flow s a s1 harriving
  have hexec : exec (.frameBadEnd p flow) s = .next (if canEndBad a then endsBad p .bad s1 else s1) := by
    simp only [exec, execFrameBadEnd, lineEndsBad]
    rw [show (applyFlow flow s).arriving p = some a from harriving]
  refine ⟨_, hexec, ?_⟩
  dsimp only
  by_cases hgood : isGoodFrame a = true ∧ a.transparent = false
  · have hcannot : canEndBad a = false := by simp [canEndBad, hgood.1, hgood.2]
    rw [if_pos hgood, hcannot]
    rfl
  · have hcan : canEndBad a = true := by
      rw [canEndBad, Bool.or_eq_true, Bool.not_eq_true']
      by_contra hno
      exact hgood (by simpa [and_comm] using hno)
    have hended := endsBad_endedBad (how := .bad) harriving nofun
    rw [if_neg hgood, if_pos hcan]
    exact ⟨hended.gone, hended.other, by rw [hended.counted, applyFlow_ctr], by rw [hended.uncounted, applyFlow_ctr],
      by rw [hended.filters, applyFlow_filters], hended.forwarded, hended.kept, by simp [SameBut, s1]⟩

end Sys2Proof.Proofs
end

section
/-! SUPPORT. The egress merge: what a boundary lets go, with its settled statements. -/

namespace Sys2Proof.Proofs

open Sys2Proof Sys2Proof.Machine Sys2Proof.Safety

variable {p₀ : Port} {s : State} {p : Port}

/-! ### An entry goes onto the line -/

theorem Agrees.owner (h : Agrees p₀ [] s) {src : Source} (hmem : src ∈ sourcesOf s p) (hsrc : src ≠ .alert) :
    ownerPort s src = some p := by
  have hclaimed := h.claimed src p
  rw [claims_nil, h.count_eq_one hmem, due, if_neg hsrc] at hclaimed
  by_contra hno
  rw [if_neg hno] at hclaimed
  cases hclaimed

/-- An alert that stands in the queue of an idle port has a copy QUEUED there. -/
theorem Agrees.alert_queued (h : Agrees p₀ [] s) (hmem : .alert ∈ sourcesOf s p)
    (idle : (s.port p).egress = none) : alertQueuedOn p s = true := by
  have hheld := h.claimed .alert p
  rw [claims_nil, h.count_eq_one hmem, due, if_pos rfl] at hheld
  cases ha : s.wru.alert with
  | none =>
    rw [alertHeld, ha] at hheld
    cases hheld
  | some a =>
    have hsending := (h.sending p).resolve_left (by simp)
    rw [idle, alertSending_eq ha] at hsending
    rw [alertHeld_eq ha, copyCount_live, hsending] at hheld
    rw [copyCount_queued_pos ha]
    by_contra hno
    rw [Nat.eq_zero_of_not_pos hno] at hheld
    cases hheld

/-- The entry that the arbiter lets go has a frame with its owner, and that frame is put on the line. -/
theorem Agrees.startEntry_port (h : Agrees p₀ [] s) {src : Source} (hmem : src ∈ sourcesOf s p)
    (idle : (s.port p).egress = none) :
    ∃ octets, ∀ q, (startEntry p src s).port q = (Machine.putOnLine p src octets s).port q := by
  cases src with
  | slot n =>
    obtain ⟨ans, hans, _⟩ := Option.map_eq_some_iff.mp (h.owner hmem nofun)
    rw [startEntry, startAnswer, hans]
    exact ⟨_, fun _ => rfl⟩
  | probe =>
    obtain ⟨f, hf, _⟩ := Option.map_eq_some_iff.mp (h.owner hmem nofun)
    rw [startEntry, startProbe, hf]
    exact ⟨_, fun _ => rfl⟩
  | response =>
    obtain ⟨r, hr, _⟩ := Option.map_eq_some_iff.mp (h.owner hmem nofun)
    rw [startEntry, startResponse, hr]
    exact ⟨_, fun _ => rfl⟩
  | report => exact ⟨s.rpe.buffer, fun _ => rfl⟩
  | alert =>
    have hqueued := h.alert_queued hmem idle
    unfold alertQueuedOn at hqueued
    unfold startEntry startAlert
    cases ha : s.wru.alert with
    | none => simp [ha] at hqueued
    | some a =>
      simp only [ha, Bool.or_eq_true] at hqueued
      dsimp only
      by_cases hc : a.collector.queuedOn p = true
      · rw [if_pos hc]
        exact ⟨_, fun _ => rfl⟩
      · rw [if_neg hc]
        cases hm : a.manager with
        | none => simp [hc, hm] at hqueued
        | some m =>
          simp only [hc, hm] at hqueued
          dsimp only
          rw [if_pos (by simpa using hqueued)]
          exact ⟨_, fun _ => rfl⟩

theorem Agrees.startEntry_own (h : Agrees p₀ [] s) {src : Source} (hmem : src ∈ sourcesOf s p)
    (idle : (s.port p).egress = none) : ownInEgress (startEntry p src s) p = some src := by
  obtain ⟨octets, hport⟩ := h.startEntry_port hmem idle
  rw [ownInEgress_eq, hport, putOnLine_eq, setPort_port_same]
  rfl

theorem Agrees.startEntry_other (h : Agrees p₀ [] s) {src : Source} (hmem : src ∈ sourcesOf s p)
    (idle : (s.port p).egress = none) : (startEntry p src s).port p.other = s.port p.other := by
  obtain ⟨octets, hport⟩ := h.startEntry_port hmem idle
  rw [hport, putOnLine_eq, setPort_port_other]

/-! ### A pass-through frame goes -/

theorem startPass_other (p : Port) (s : State) : (startPass p s).port p.other = s.port p.other := by
  unfold startPass
  split
  · rfl
  split
  · exact setPort_port_other ..
  · rw [setPort_port_other]
    split
    · exact countEgress_port_other ..
    · rfl

/-- A head frame becomes the frame in egress; the buffer and the queue stay. -/
theorem startPass_port (h : headReady (s.port p) = true) :
    (∃ r, ((startPass p s).port p).egress = some (.pass r 1)) ∧
      ((startPass p s).port p).queue = (s.port p).queue := by
  unfold startPass
  unfold headReady at h
  cases hb : (s.port p).buffer with
  | nil => simp [hb] at h
  | cons f rest =>
    dsimp only
    split
    · rw [setPort_port_same]
      exact ⟨⟨_, rfl⟩, rfl⟩
    · rw [setPort_port_same]
      refine ⟨⟨_, rfl⟩, ?_⟩
      dsimp only
      split
      · rw [countEgress_port_same]
      · rfl

/-! ### The arbiter (R191) -/

theorem exec_frameBoundary {flow : Flow} (hlink : ((applyFlow flow s).port p).link = true)
    (idle : ((applyFlow flow s).port p).egress = none) :
    exec (.frameBoundary p flow) s = .next (takeBoundary p (applyFlow flow s)) := if_pos (by simp [hlink, idle])

theorem any_source_iff (q : List QueueEntry) (src : Source) :
    (q.any fun e => e.source == src) = true ↔ 0 < q.countP fun e => e.source == src := by
  rw [List.any_eq_true, List.countP_pos_iff]

/-- Without an urgent entry, an entry that is no response and no alert is a report. -/
theorem choiceByClass_eq {q : List QueueEntry} (hq : q ≠ []) (hplain : ∀ e ∈ q, e.source.urgent = false) :
    choiceByClass q = some (if 0 < q.countP fun e => e.source == .response then .response
      else if 0 < q.countP fun e => e.source == .alert then .alert else .report) := by
  unfold choiceByClass
  simp only [any_source_iff]
  split
  · rfl
  split
  · rfl
  · next hresponse halert =>
    rw [if_pos]
    obtain ⟨e, he⟩ := List.exists_mem_of_ne_nil q hq
    rw [List.countP_pos_iff]
    refine ⟨e, he, ?_⟩
    have hurgent := hplain e he
    have hno {src : Source} (h : ¬ 0 < q.countP fun e => e.source == src) : e.source ≠ src := fun hs =>
      h (List.countP_pos_iff.mpr ⟨e, he, by simp [hs]⟩)
    cases hs : e.source with
    | slot n => rw [hs] at hurgent; cases hurgent
    | probe => rw [hs] at hurgent; cases hurgent
    | response => exact absurd hs (hno hresponse)
    | alert => exact absurd hs (hno halert)
    | report => rfl

/-- Settles O46: the five cases of R191 are those of `choose`, and an entry that it names goes onto the line. -/
theorem arbiterTakesFirstCase : Obligations.ArbiterTakesFirstCase := by
  intro p flow s s1 hqueues hlink idle q urgent
  have hagrees := agrees_of_queuesConsistent hqueues p
  have hentry {src : Source} (hchoose : choose (s1.port p) = some (.entry src)) :
      ownInEgress (takeBoundary p s1) p = some src := by
    rw [takeBoundary, hchoose]
    exact hagrees.startEntry_own (choose_mem hchoose) idle
  refine ⟨_, exec_frameBoundary hlink idle, ?_, by simp [SameBut], ?_⟩
  · change (takeBoundary p s1).port p.other = s1.port p.other
    unfold takeBoundary
    split
    · rfl
    · exact startPass_other p s1
    · next src hchoose => exact hagrees.startEntry_other (choose_mem hchoose) idle
  · have hfind : q.find? (fun e => e.source.urgent) = urgent.head? := List.head?_filter.symm
    by_cases hurgent : urgent ≠ []
    · rw [if_pos hurgent]
      obtain ⟨x, rest, hx⟩ := List.exists_cons_of_ne_nil hurgent
      rw [hx, List.head?_cons] at hfind ⊢
      exact hentry (by rw [choose, hfind])
    · rw [if_neg hurgent]
      rw [not_not] at hurgent
      have hplain : choose (s1.port p) = choosePlain (s1.port p) := by
        rw [choose, hfind, hurgent]
        rfl
      have hnone : ∀ e ∈ q, e.source.urgent = false := fun e he => by
        simpa using List.filter_eq_nil_iff.mp hurgent e he
      by_cases hdefer : q ≠ [] ∧ occupancy (s1.port p) ≤ (s1.port p).deferMark
      · rw [if_pos hdefer]
        refine hentry ?_
        rw [hplain, choosePlain, if_pos (by simpa [q] using hdefer), choiceByClass_eq hdefer.1 hnone]
        rfl
      · rw [if_neg hdefer]
        have hplain' : choose (s1.port p) = if headReady (s1.port p) then some .pass
            else q.head?.map fun x => .entry x.source := by
          rw [hplain, choosePlain, if_neg (by simpa [q] using hdefer)]
        by_cases hready : headReady (s1.port p) = true
        · rw [if_pos hready] at hplain' ⊢
          have heq : takeBoundary p s1 = startPass p s1 := by rw [takeBoundary, hplain']
          change (∃ r, ((takeBoundary p s1).port p).egress = some (.pass r 1)) ∧ ((takeBoundary p s1).port p).queue = q
          rw [heq]
          exact startPass_port hready
        · rw [if_neg hready] at hplain' ⊢
          cases hq : q with
          | nil =>
            rw [hq] at hplain'
            rw [if_neg (by simp)]
            change takeBoundary p s1 = s1
            rw [takeBoundary, hplain']
            rfl
          | cons x rest =>
            rw [hq] at hplain'
            rw [if_pos (by simp)]
            exact hentry hplain'

/-! ### The residence of a transit frame (R192) -/

/-- A head frame that is corrected leaves with the sum of R192 saturated, and a saturation is counted. -/
theorem startPass_of_corrects {f : PassFrame} {rest : List PassFrame} {place : Nat}
    (hbuffer : (s.port p).buffer = f :: rest) (hcorrects : correctsAt p f s = some place) {sum : Int}
    (hsum : residenceSum (field place 6 f.octets) (residenceCorrection p f.ingressUptime s) = sum) :
    (startPass p s).port p = { s.port p with
      egress := some (.pass (some (residenceSent sum)) 1)
      ctr := { (s.port p).ctr with
        residenceSaturations := if residenceSaturates sum then bump (s.port p).ctr.residenceSaturations
          else (s.port p).ctr.residenceSaturations } } := by
  unfold startPass
  simp only [hbuffer, hcorrects, hsum]
  rw [setPort_port_same]
  split
  · simp [hbuffer]
  · simp [hbuffer]

theorem residenceSent_toInt (sum : Int) :
    (residenceSent sum).toInt = max (-140737488355328) (min 140737488355327 sum) := by
  have hclamp : clampInt (-140737488355328) 140737488355327 sum =
      max (-140737488355328) (min 140737488355327 sum) := rfl
  rw [residenceSent, hclamp, BitVec.toInt_ofInt]
  generalize hv : max (-140737488355328) (min 140737488355327 sum) = v
  have hlo : -140737488355328 ≤ v := by omega
  have hhi : v ≤ 140737488355327 := by omega
  exact Int.bmod_eq_of_le (by norm_num; omega) (by norm_num; omega)

/-- Settles O48: the port has nothing of its own to send, so that the head frame goes. -/
theorem residenceCorrected : Obligations.ResidenceCorrected := by
  intro p flow s f rest place s1 hlink idle hqueue hbuffer htransit hready hgood received sum
  have hhead : headReady (s1.port p) = true := by rw [headReady, hbuffer]; exact hready
  have heq : takeBoundary p s1 = startPass p s1 := by
    rw [takeBoundary, choose, choosePlain, hqueue, hhead]
    rfl
  have hcorrects : correctsAt p f s1 = some place := by rw [correctsAt, hgood]; exact htransit
  have hsum : residenceSum (field place 6 f.octets) (residenceCorrection p f.ingressUptime s1) = sum := by
    simp only [residenceSum, residenceCorrection, elapsed, sum, received, s1, applyFlow_frame]
    push_cast
    ring
  have hport := startPass_of_corrects hbuffer hcorrects hsum
  refine ⟨_, exec_frameBoundary hlink idle, ?_⟩
  have hsame : SameBut [.fcl, .egm] s (startPass p s1) := by simp [SameBut, s1]
  change (∃ r : BitVec 48, ((takeBoundary p s1).port p).egress = _ ∧ _) ∧
    ((takeBoundary p s1).port p).ctr.residenceSaturations = _ ∧ ((takeBoundary p s1).port p).buffer = _ ∧
    SameBut [.fcl, .egm] s (takeBoundary p s1)
  rw [heq, hport]
  refine ⟨⟨_, rfl, residenceSent_toInt sum⟩, ?_, hbuffer, hsame⟩
  exact if_congr (by simp [residenceSaturates]) rfl rfl

end Sys2Proof.Proofs
end

section
/-! SUPPORT. The ends of egress: of a pass-through frame and of a report, and the soft reset, with their settled
statements. -/

namespace Sys2Proof.Proofs

open Sys2Proof Sys2Proof.Machine Sys2Proof.Safety

/-! ### A pass-through frame has left (R193, R194) -/

theorem exec_egressEnd_pass {p : Port} {flow : Flow} {s : State} {r : Option (BitVec 48)} {k : Nat} {f : PassFrame}
    {rest : List PassFrame} (hegress : ((applyFlow flow s).port p).egress = some (.pass r k))
    (hbuffer : ((applyFlow flow s).port p).buffer = f :: rest) (hend : f.arrival ≠ .arriving)
    (htest : s.wru.testDue = false) :
    exec (.egressEnd p flow) s = .next (endPass p f r (applyFlow flow s)) := by
  have htake : takeEgressEnd p (applyFlow flow s) = endPass p f r (applyFlow flow s) := by
    simp only [takeEgressEnd, hegress, hbuffer, if_neg hend]
  have hquiet : (endPass p f r (applyFlow flow s)).wru.testDue = false := by simp [htest]
  exact congrArg Host.Outcome.next ((congrArg finish htake).trans (finish_of_no_test hquiet))

theorem passCheck_eq {r : Option (BitVec 48)} {arrival : Arrival} (h : arrival ≠ .arriving) :
    passCheck r arrival = if arrival = .stopped then .forcedBad else if r = none then .received
      else if arrival = .good then .computed else .forcedBad := by
  cases arrival with
  | arriving => exact absurd rfl h
  | stopped => rfl
  | good => cases r <;> rfl
  | bad => cases r <;> rfl

theorem checkSequence_after_eq (check : CheckSequence) (body : List Byte) : check.after body =
    if check = .computed then checkSequence body
    else if check = .forcedBad then (checkSequence body).map (~~~ ·) else [] := by
  cases check <;> rfl

theorem passOctets_of_none {f : PassFrame} {r : Option (BitVec 48)} (h : r = none ∨ f.transit = none) :
    passOctets f r = f.octets := by
  unfold passOctets
  rcases h with rfl | h
  · cases f.transit <;> rfl
  · rw [h]

theorem passOctets_of_some {f : PassFrame} {v : BitVec 48} {place : Nat} (h : f.transit = some place) :
    passOctets f (some v) = f.octets.take place ++ be 6 v.toNat ++ f.octets.drop (place + 6) := by
  simp only [passOctets, h, patch, be_length]

/-- Settles O49: the frame's octets and its check sequence are those that `passDeparted` records. -/
theorem passThroughFrameLeaves : Obligations.PassThroughFrameLeaves := by
  intro p flow s f rest r k s1 hegress hbuffer hend htest check line sent
  have hcheck : (passDeparted f r).check = check := passCheck_eq hend
  have hsent : (if r.isSome && f.arrival != .stopped then line.take (line.length - 4) else line) = sent :=
    if_congr (by simp [Option.isSome_iff_ne_none]) rfl rfl
  have hdeparted : passDeparted f r =
      { octets := sent ++ (if check = .computed then checkSequence sent
          else if check = .forcedBad then (checkSequence sent).map (~~~ ·) else [])
        check := check } := by
    have heq : passDeparted f r = departAs (passCheck r f.arrival)
      (if r.isSome && f.arrival != .stopped then line.take (line.length - 4) else line) := rfl
    rw [heq, hsent, departAs, show passCheck r f.arrival = check from hcheck, checkSequence_after_eq]
  refine ⟨_, exec_egressEnd_pass hegress hbuffer hend htest, ?_⟩
  have hport : (endPass p f r s1).port p = { s1.port p with
      buffer := (s1.port p).buffer.tail
      egress := none
      departed := some (passDeparted f r)
      ctr := countPass (passDeparted f r).check (s1.port p).ctr } := setPort_port_same ..
  dsimp only
  change ((endPass p f r s1).port p).buffer = rest ∧ ((endPass p f r s1).port p).egress = none ∧
    ((endPass p f r s1).port p).queue = _ ∧ ((endPass p f r s1).port p).departed = _ ∧
    ((endPass p f r s1).port p).ctr = _ ∧ _
  rw [hport]
  refine ⟨by rw [hbuffer]; rfl, rfl, rfl, congrArg some hdeparted, ?_, fun h => passOctets_of_none h,
    fun place v hplace hr => ?_, setPort_port_other .., by simp [SameBut]⟩
  · rw [hcheck]
    rfl
  · subst hr
    exact passOctets_of_some hplace

/-! ### An originated frame has left (R194) -/

theorem exec_egressEnd_own {p : Port} {flow : Flow} {s : State} {src : Source} {o : List Byte} {k : Nat}
    (h : (s.port p).egress = some (.own src o k)) :
    exec (.egressEnd p flow) s = .next (finish (endOwn p src o (applyFlow flow s))) := by
  obtain ⟨k', hk⟩ := applyFlow_egress_own (fl := flow) h
  have htake : takeEgressEnd p (applyFlow flow s) = endOwn p src o (applyFlow flow s) := by
    simp only [takeEgressEnd, hk]
  exact congrArg (fun t => Host.Outcome.next (finish t)) htake

/-- The state with the frame of a source gone from its port, its owner not told yet. -/
def lineCleared (p : Port) (o : List Byte) (stays : Bool) (s : State) : State :=
  s.setPort p ((s.port p).endOwn o stays)

theorem endOwn_eq {src : Source} (h : src ≠ .alert) (p : Port) (o : List Byte) (s : State) :
    endOwn p src o s = ownerEnded p src (lineCleared p o false s) := by
  have hstays : (src == .alert && alertQueuedOn p s) = false := by
    rw [beq_false_of_ne h, Bool.false_and]
  rw [endOwn, hstays]
  rfl

/-! ### A report has left (R183) -/

/-- The state after a report's end, but for the due check. -/
def reportDelivered (s : State) : State :=
  deferredFlush (clearReport { decidePressure { s with rrg := s.rrg.remove (inFlightCount s) } with
    rpe := { s.rpe with ctr := { s.rpe.ctr with sent := bump s.rpe.ctr.sent } } })

theorem reportEnded_eq (s : State) : reportEnded s = dueCheck (reportDelivered s) := rfl

theorem dueCheck_rpe (s : State) : (dueCheck s).rpe.deferredFlush = s.rpe.deferredFlush ∧
    (dueCheck s).rpe.ctr.sent = s.rpe.ctr.sent ∧
    (s.rrg.count = 0 → (dueCheck s).rpe = s.rpe) := by
  unfold dueCheck
  split
  · next can =>
    refine ⟨rfl, rfl, fun hzero => ?_⟩
    obtain ⟨_, _, _, hpos, _⟩ := (reportCanBuild_iff s).mp can
    omega
  · exact ⟨rfl, rfl, fun _ => rfl⟩

theorem dueCheck_port (s : State) (p : Port) : ((dueCheck s).port p).departed = (s.port p).departed ∧
    ((dueCheck s).port p).ctr = (s.port p).ctr := by
  by_cases h : p = s.mgu.station.collectorPort
  · rw [h, dueCheck_port_collector]
    exact ⟨rfl, rfl⟩
  · rw [eq_other_of_ne h, dueCheck_port_other]
    exact ⟨rfl, rfl⟩

section
variable {s : State} {r : InFlight} (hflight : s.rpe.inFlight = some r)
include hflight

theorem reportDelivered_kept (hd : s.rpe.deferredFlush = false) :
    (reportDelivered s).rrg = (decidePressure { s with rrg := s.rrg.remove r.n }).rrg ∧
      (reportDelivered s).rpe.deferredFlush = false := by
  simp [reportDelivered, deferredFlush, clearReport, hd, inFlightCount, hflight]

theorem reportDelivered_flushed (hd : s.rpe.deferredFlush = true) :
    (reportDelivered s).rrg = (flushRing (decidePressure { s with rrg := s.rrg.remove r.n })).rrg ∧
      (reportDelivered s).rpe.deferredFlush = false ∧ (reportDelivered s).rpe.inFlight = none := by
  simp [reportDelivered, deferredFlush, clearReport, hd, inFlightCount, hflight]
  rfl

end

theorem reportDelivered_sent (s : State) : (reportDelivered s).rpe.ctr.sent = bump s.rpe.ctr.sent := by
  unfold reportDelivered deferredFlush
  split <;> simp [clearReport]

theorem reportDelivered_port (s : State) (p : Port) : (reportDelivered s).port p = s.port p := by
  unfold reportDelivered deferredFlush
  split <;> rfl

theorem reportEnded_sameBut (s : State) : SameBut [.rrg, .rpe, .egm] s (reportEnded s) := by
  simp [SameBut]

theorem decidePressure_ctr (s : State) : (decidePressure s).rrg.ctr.delivered = s.rrg.ctr.delivered ∧
    (decidePressure s).rrg.ctr.flushed = s.rrg.ctr.flushed := by
  unfold decidePressure
  dsimp only
  split <;> exact ⟨rfl, rfl⟩

theorem flushRing_counts (s : State) : (flushRing s).rrg.ctr.delivered = s.rrg.ctr.delivered ∧
    (flushRing s).rrg.ctr.flushed = addCount s.rrg.ctr.flushed s.rrg.count := by
  unfold flushRing
  exact ⟨(decidePressure_ctr _).1, (decidePressure_ctr _).2⟩

/-- The flow of a command counts refusals of the buffers alone. -/
theorem applyFlow_port_ctr (fl : Flow) (s : State) (p : Port) : ((applyFlow fl s).port p).ctr =
    { (s.port p).ctr with
      bufferFull := ((applyFlow fl s).port p).ctr.bufferFull
      linkDrops := ((applyFlow fl s).port p).ctr.linkDrops } := by
  have henter (e : Egm) (how : Admission) (f : PassFrame) : (Egm.enter e how f).ctr =
      { e.ctr with bufferFull := (Egm.enter e how f).ctr.bufferFull
                   linkDrops := (Egm.enter e how f).ctr.linkDrops } := by
    cases how <;> rfl
  have hdecided (b : Arriving) (e : Egm) : (decided b e).2.ctr =
      { e.ctr with bufferFull := (decided b e).2.ctr.bufferFull
                   linkDrops := (decided b e).2.ctr.linkDrops } := by
    unfold decided
    split
    · split
      · rfl
      · rfl
      · exact henter ..
    · rfl
  rw [applyFlow_port, send_ctr]
  unfold received
  split
  · rfl
  · dsimp only
    split
    · rw [hdecided, write_eq]
    · exact hdecided ..

theorem applyFlow_originatedSent (fl : Flow) (s : State) (p : Port) :
    ((applyFlow fl s).port p).ctr.originatedSent = (s.port p).ctr.originatedSent := by rw [applyFlow_port_ctr]

/-- Settles O45: the records that the report carried leave, and a deferred flush empties the ring, so that the
due check builds no other report then. -/
theorem reportEndDelivers : Obligations.ReportEndDelivers := by
  intro p flow s o k r hegress hflight hring hn htest
  obtain ⟨v, hv⟩ : ∃ v, v = lineCleared p o false (applyFlow flow s) := ⟨_, rfl⟩
  have hexec : exec (.egressEnd p flow) s = .next (finish (reportEnded v)) := by
    rw [exec_egressEnd_own hegress, endOwn_eq (src := .report) nofun, hv]
    rfl
  have hrrg : v.rrg = s.rrg := by simp [hv, lineCleared]
  have hrpe : v.rpe = s.rpe := by simp [hv, lineCleared]
  have hsame : SameBut [.fcl, .egm] s v := by simp [SameBut, hv, lineCleared]
  have hport : v.port p = ((applyFlow flow s).port p).endOwn o false := by simp [hv, lineCleared]
  have hwru : (reportEnded v).wru.testDue = false := by simp [hv, lineCleared, htest]
  obtain ⟨hdelivered, hflushed⟩ := decidePressure_ctr { v with rrg := v.rrg.remove r.n }
  obtain ⟨hdeferred, hsent, hidle⟩ := dueCheck_rpe (reportDelivered v)
  obtain ⟨hdeparted, hctr⟩ := dueCheck_port (reportDelivered v) p
  have hring' : (reportEnded v).rrg = (reportDelivered v).rrg := by rw [reportEnded_eq]; simp
  rw [finish_of_no_test hwru] at hexec
  refine ⟨_, hexec, ?_⟩
  dsimp only
  rw [hring', reportEnded_eq, hdeferred, hsent, hdeparted, hctr, reportDelivered_sent, reportDelivered_port, hport,
    hrpe]
  have hlast : SameBut [.fcl, .rrg, .rpe, .egm] s (dueCheck (reportDelivered v)) :=
    sameBut_trans (sameBut_mono hsame (by simp)) (sameBut_mono (reportEnded_sameBut v) (by simp))
  have hctrEnd : (((applyFlow flow s).port p).endOwn o false).ctr.originatedSent =
      bump (s.port p).ctr.originatedSent := congrArg bump (applyFlow_originatedSent ..)
  have hflight' : v.rpe.inFlight = some r := by rw [hrpe, hflight]
  cases hd : s.rpe.deferredFlush with
  | false =>
    obtain ⟨hrrg', hdef⟩ := reportDelivered_kept hflight' (by rw [hrpe, hd])
    rw [hrrg', if_neg Bool.false_ne_true, hdelivered, hflushed, hrrg]
    exact ⟨rfl, ⟨rfl, rfl, rfl, rfl⟩, rfl, rfl, hdef, rfl, rfl, hctrEnd, hlast⟩
  | true =>
    obtain ⟨hrrg', hdef, hnone⟩ := reportDelivered_flushed hflight' (by rw [hrpe, hd])
    obtain ⟨hdelivered', hflushed'⟩ := flushRing_counts (decidePressure { v with rrg := v.rrg.remove r.n })
    have hempty : (reportDelivered v).rrg.count = 0 := by rw [hrrg', flushRing_count]
    rw [if_pos rfl, hidle hempty, hrrg', hdelivered', hflushed', hdelivered, hflushed, hrrg]
    exact ⟨rfl, ⟨rfl, rfl, rfl, rfl, hnone⟩, rfl, rfl, hdef, rfl, rfl, hctrEnd, hlast⟩

end Sys2Proof.Proofs
end

section
/-! SUPPORT. The ends of egress of the frames that the part originates, with their settled statements. -/

namespace Sys2Proof.Proofs

open Sys2Proof Sys2Proof.Machine Sys2Proof.Safety

/-! ### The line is cleared -/

section
variable (p : Port) (o : List Byte) (stays : Bool) (s : State)

@[simp] theorem lineCleared_frame : (lineCleared p o stays s).rcu = s.rcu ∧ (lineCleared p o stays s).dse = s.dse ∧
    (lineCleared p o stays s).fcl = s.fcl ∧ (lineCleared p o stays s).anu = s.anu ∧
    (lineCleared p o stays s).dtr = s.dtr ∧ (lineCleared p o stays s).wru = s.wru ∧
    (lineCleared p o stays s).dte = s.dte ∧ (lineCleared p o stays s).rrg = s.rrg ∧
    (lineCleared p o stays s).rpe = s.rpe ∧ (lineCleared p o stays s).mgu = s.mgu ∧
    (lineCleared p o stays s).resetHeld = s.resetHeld ∧ (lineCleared p o stays s).pending = s.pending := by
  simp [lineCleared]

theorem lineCleared_port : (lineCleared p o stays s).port p = (s.port p).endOwn o stays := setPort_port_same ..

theorem lineCleared_port_other : (lineCleared p o stays s).port p.other = s.port p.other := setPort_port_other ..

theorem lineCleared_link (q : Port) : ((lineCleared p o stays s).port q).link = (s.port q).link := by
  by_cases h : q = p
  · rw [h, lineCleared_port]
    rfl
  · rw [eq_other_of_ne h, lineCleared_port_other]

end

/-! ### A PART_RESET response has left (R211) -/

theorem softReset_port (s : State) (p : Port) : (softReset s).port p = (s.port p).afterReset := by
  cases p <;> rfl

theorem afterReset_link (e : Egm) : e.afterReset.link = e.link := rfl

theorem responseEnded_of_reset {s : State} {r : Response} (h : s.mgu.response = some r)
    (hreset : r.resetPending = true) : responseEnded s = softReset { s with mgu := { s.mgu with
      response := none
      ctr := { s.mgu.ctr with responsesSent := bump s.mgu.ctr.responsesSent } } } := by
  simp only [responseEnded, h, hreset, if_true]

/-- Settles O51: the owner of the response performs the reset, and no alert test is owed after it. -/
theorem partResetSoftResets : Obligations.PartResetSoftResets := by
  intro p flow s o k r hegress hresponse hreset
  obtain ⟨v, hv⟩ : ∃ v, v = lineCleared p o false (applyFlow flow s) := ⟨_, rfl⟩
  have hmgu : v.mgu = s.mgu := by simp [hv]
  have hrcu : v.rcu = s.rcu := by simp [hv]
  have hdse : v.dse = s.dse := by simp [hv]
  have hlink (q : Port) : (v.port q).link = (s.port q).link := by rw [hv, lineCleared_link, applyFlow_link]
  obtain ⟨u, hu⟩ : ∃ u, u = { v with mgu := { v.mgu with
    response := none, ctr := { v.mgu.ctr with responsesSent := bump v.mgu.ctr.responsesSent } } } := ⟨_, rfl⟩
  have hexec : exec (.egressEnd p flow) s = .next (softReset u) := by
    rw [exec_egressEnd_own hegress, endOwn_eq (src := .response) nofun, ← hv, ownerEnded,
      responseEnded_of_reset (by rw [hmgu, hresponse]) hreset, ← hu]
    exact congrArg _ (finish_of_no_test rfl)
  have hlink' (q : Port) : (u.port q).link = (s.port q).link := by
    rw [← hlink, hu]
    rfl
  have hmguEq : (softReset u).mgu = s.mgu.softReset := by rw [← hmgu, softReset, hu]; rfl
  have hrcuEq : (softReset u).rcu = s.rcu.softReset := by rw [← hrcu, softReset, hu]
  have hdseEq : (softReset u).dse = { State.reset.dse with history := s.dse.history } := by
    rw [← hdse, softReset, hu]
    rfl
  have hrpeEq : (softReset u).rpe = { State.reset.rpe with timer := some (s.rcu.uptime + 125000000) } := by
    rw [← hrcu, softReset, hu]
    rfl
  refine ⟨_, hexec, hrcuEq, hdseEq, rfl, rfl, rfl, rfl, rfl, rfl, hrpeEq, fun q => ?_, ?_⟩
  · rw [softReset_port]
    exact ⟨hlink' q, rfl, rfl, rfl, rfl, rfl⟩
  · rw [hmguEq]
    exact ⟨rfl, rfl, rfl, rfl, rfl, rfl⟩

/-! ### An originated frame has left: its owner is told (R194) -/

/-- The end of a frame whose owner calls for no alert test. -/
theorem exec_egressEnd_quiet {p : Port} {flow : Flow} {s : State} {src : Source} {o : List Byte} {k : Nat}
    (h : (s.port p).egress = some (.own src o k)) (hsrc : src ≠ .alert)
    (hquiet : (ownerEnded p src (lineCleared p o false (applyFlow flow s))).wru.testDue = false) :
    exec (.egressEnd p flow) s = .next (ownerEnded p src (lineCleared p o false (applyFlow flow s))) := by
  rw [exec_egressEnd_own h, endOwn_eq hsrc, finish_of_no_test hquiet]

theorem releaseHeld_of_none {s : State} (h : s.dse.held = none) : releaseHeld s = s := by
  rw [releaseHeld, h]

theorem releaseHeld_of_up {s : State} {f : ProbeFrame} (h : s.dse.held = some f)
    (hlink : (s.port f.port).link = true) : releaseHeld s =
      pushEntry f.port .probe { s with dse := { s.dse with held := none, frame := some f } } := by
  rw [releaseHeld, h]
  exact if_pos hlink

/-- The last copy of an alert ends now, where no new alert can be built at once: the alert is settled and the
test that it calls for builds nothing. -/
theorem finish_settleAlert {a : Alert} {s : State} (hend : a.lastEnd = some s.rcu.uptime)
    (hquiet : s.wru.testDue = false) (hwait : s.wru.alertDue = false ∨ 0 < s.wru.holdOff) :
    finish (settleAlert a s) = { s with wru := { s.wru with
      alert := if a.live then some a else none
      lastAlertEnd := if a.live then s.wru.lastAlertEnd else some s.rcu.uptime } } := by
  unfold settleAlert
  cases a.live with
  | true => exact finish_of_no_test hquiet
  | false =>
    obtain ⟨u, hu⟩ : ∃ u : State, u = { s with wru := { s.wru with
      alert := none, lastAlertEnd := some s.rcu.uptime } } := ⟨_, rfl⟩
    have hcannot : ¬ alertCanBuild u = true := by
      rw [alertCanBuild_iff, hu]
      rintro ⟨hdue, _, _, _, hexpired⟩
      rcases hwait with hno | hpos
      · exact Bool.false_ne_true (hno.symm.trans hdue)
      · simp [holdOffExpired, elapsed] at hexpired
        omega
    rw [if_neg Bool.false_ne_true, hend, if_neg Bool.false_ne_true, if_neg Bool.false_ne_true, ← hu]
    have hfinish : finish (callAlertTest u) = alertTest u := by
      have hback : { u with wru := { u.wru with testDue := false } } = u := by
        rw [hu, ← hquiet]
      exact congrArg alertTest hback
    rw [hfinish, alertTest, if_neg hcannot]

section
variable {s : State} {a : Alert} {p : Port} (ha : s.wru.alert = some a) (hquiet : s.wru.testDue = false)
  (hwait : s.wru.alertDue = false ∨ 0 < s.wru.holdOff)
include ha hquiet hwait

theorem alertEnded_of_collector (hon : a.collector.sendingOn p = true) :
    finish (alertEnded p s) = { s with wru := { s.wru with
      alert := if ({ a with collector := { a.collector with phase := .ended }
                            lastEnd := some s.rcu.uptime } : Alert).live then
          some { a with collector := { a.collector with phase := .ended }, lastEnd := some s.rcu.uptime }
        else none
      lastAlertEnd := if ({ a with collector := { a.collector with phase := .ended }
                                   lastEnd := some s.rcu.uptime } : Alert).live then s.wru.lastAlertEnd
        else some s.rcu.uptime
      ctr := { s.wru.ctr with framesSent := bump s.wru.ctr.framesSent } } } := by
  have heq : alertEnded p s = settleAlert { a with
      collector := { a.collector with phase := .ended }, lastEnd := some s.rcu.uptime }
      { s with wru := { s.wru with ctr := { s.wru.ctr with framesSent := bump s.wru.ctr.framesSent } } } := by
    simp only [alertEnded, ha, hon, if_true]
  rw [heq]
  exact finish_settleAlert (by rfl) (by exact hquiet) (by exact hwait)

theorem alertEnded_of_manager {m : AlertCopy} (hnot : a.collector.sendingOn p = false)
    (hm : a.manager = some m) (hon : m.sendingOn p = true) :
    finish (alertEnded p s) = { s with wru := { s.wru with
      alert := if ({ a with manager := some { m with phase := .ended }
                            lastEnd := some s.rcu.uptime } : Alert).live then
          some { a with manager := some { m with phase := .ended }, lastEnd := some s.rcu.uptime }
        else none
      lastAlertEnd := if ({ a with manager := some { m with phase := .ended }
                                   lastEnd := some s.rcu.uptime } : Alert).live then s.wru.lastAlertEnd
        else some s.rcu.uptime
      ctr := { s.wru.ctr with
        framesSent := bump s.wru.ctr.framesSent
        managerSent := bump s.wru.ctr.managerSent } } } := by
  have heq : alertEnded p s = settleAlert { a with
      manager := some { m with phase := .ended }, lastEnd := some s.rcu.uptime }
      { s with wru := { s.wru with ctr := { s.wru.ctr with
        framesSent := bump s.wru.ctr.framesSent
        managerSent := bump s.wru.ctr.managerSent } } } := by
    simp only [alertEnded, ha, hnot, hm, hon, if_true]
    rfl
  rw [heq]
  exact finish_settleAlert (by rfl) (by exact hquiet) (by exact hwait)

end

/-- Settles O50: the line is cleared, and the owner of the frame is told. -/
theorem originatedFrameEnds : Obligations.OriginatedFrameEnds := by
  intro p flow s src o k hegress htest e other left gone
  obtain ⟨v, hv⟩ : ∃ v, v = lineCleared p o false (applyFlow flow s) := ⟨_, rfl⟩
  have hport : v.port p = left gone := by rw [hv, lineCleared_port]; rfl
  have hother : v.port p.other = other := by rw [hv, lineCleared_port_other]
  have hsame : SameBut [.fcl, .egm] s v := by simp [SameBut, hv]
  have hwru : v.wru = s.wru := by simp [hv]
  have hdse : v.dse = s.dse := by simp [hv]
  have hmgu : v.mgu = s.mgu := by simp [hv]
  have hanu : v.anu = s.anu := by simp [hv]
  refine ⟨?slot, ?probe, ?heldProbe, ?response, ?alert⟩
  case slot =>
    rintro n rfl
    refine ⟨_, exec_egressEnd_quiet hegress nofun (by rw [← hv]; exact hwru ▸ htest), ?_⟩
    rw [← hv]
    refine ⟨?_, hport, hother, sameBut_trans (sameBut_mono hsame (by simp)) (by simp [SameBut, ownerEnded])⟩
    rw [← hanu]
    rfl
  case probe =>
    rintro rfl hheld
    have heq : ownerEnded p .probe v = { v with dse := { v.dse with
        frame := none, ctr := { v.dse.ctr with probesSent := bump v.dse.ctr.probesSent } } } :=
      releaseHeld_of_none (by rw [← hheld, ← hdse]; rfl)
    refine ⟨_, exec_egressEnd_quiet hegress nofun (by rw [← hv, heq]; exact hwru ▸ htest), ?_⟩
    rw [← hv, heq]
    refine ⟨by rw [hdse], hport, hother, sameBut_trans (sameBut_mono hsame (by simp)) (by simp [SameBut])⟩
  case heldProbe =>
    rintro f rfl hheld hlink
    have hup : (v.port f.port).link = true := by rw [hv, lineCleared_link, applyFlow_link, hlink]
    have heq : ownerEnded p .probe v = pushEntry f.port .probe { v with dse := { v.dse with
        frame := some f, held := none, ctr := { v.dse.ctr with probesSent := bump v.dse.ctr.probesSent } } } :=
      releaseHeld_of_up (by rw [← hheld, ← hdse]; rfl) hup
    refine ⟨_, exec_egressEnd_quiet hegress nofun (by rw [← hv, heq]; exact hwru ▸ htest), ?_⟩
    rw [← hv, heq]
    refine ⟨by rw [← hdse]; rfl, ?_, ?_, sameBut_trans (sameBut_mono hsame (by simp)) (by simp [SameBut])⟩
    · by_cases hp : f.port = p
      · rw [if_pos hp, hp, pushEntry_port_same]
        change ({ v.port p with queue := (v.port p).queue ++ [{ source := .probe }] } : Egm) = _
        rw [hport]
      · rw [if_neg hp, pushEntry_port_ne (Ne.symm hp)]
        exact hport
    · by_cases hp : f.port = p
      · rw [if_pos hp, hp, pushEntry_port_other]
        exact hother
      · rw [if_neg hp, eq_other_of_ne hp, pushEntry_port_same]
        change ({ v.port p.other with queue := (v.port p.other).queue ++ [{ source := .probe }] } : Egm) = _
        rw [hother]
  case response =>
    rintro r rfl hresponse hreset
    have heq : ownerEnded p .response v = { v with mgu := { v.mgu with
        response := none, ctr := { v.mgu.ctr with responsesSent := bump v.mgu.ctr.responsesSent } } } := by
      simp only [ownerEnded, responseEnded, hmgu, hresponse, hreset]
      rfl
    refine ⟨_, exec_egressEnd_quiet hegress nofun (by rw [← hv, heq]; exact hwru ▸ htest), ?_⟩
    rw [← hv, heq]
    refine ⟨by rw [hmgu], hport, hother, sameBut_trans (sameBut_mono hsame (by simp)) (by simp [SameBut])⟩
  case alert =>
    rintro a rfl ha hwait
    have hflow : (applyFlow flow s).wru = s.wru := by simp
    obtain ⟨w, hw⟩ : ∃ w, w = lineCleared p o (alertQueuedOn p (applyFlow flow s)) (applyFlow flow s) := ⟨_, rfl⟩
    have hwru' : w.wru = s.wru := by simp [hw]
    have hrcu' : w.rcu = s.rcu := by simp [hw]
    have hsame' : SameBut [.fcl, .egm] s w := by simp [SameBut, hw]
    have hother' : w.port p.other = other := by rw [hw, lineCleared_port_other]
    have hport' : w.port p = left (if alertQueuedOn p (applyFlow flow s) then
        e.queue.map fun x => { x with inEgress := false } else gone) := by
      rw [hw, lineCleared_port]
      rfl
    have hexec : exec (.egressEnd p flow) s = .next (finish (alertEnded p w)) := by
      rw [exec_egressEnd_own hegress, hw]
      rfl
    have hqueued : alertQueuedOn p (applyFlow flow s) =
        (a.collector.queuedOn p || a.manager.any fun m => m.port == p && m.phase == .queued) := by
      simp only [alertQueuedOn, hflow, ha]
      cases a.manager <;> rfl
    refine ⟨?collector, ?manager⟩
    case collector =>
      rintro ⟨hcollector, hsending⟩ after
      have hstays : alertQueuedOn p (applyFlow flow s) =
          a.manager.any fun m => m.port == p && m.phase == .queued := by
        simp [hqueued, AlertCopy.queuedOn, hsending]
      have hon : a.collector.sendingOn p = true := by simp [AlertCopy.sendingOn, hcollector, hsending]
      have hended := alertEnded_of_collector (s := w) (by rw [hwru', ha]) (hwru' ▸ htest)
        (hwru' ▸ hwait) hon
      refine ⟨_, hexec.trans (congrArg _ hended), ?_⟩
      refine ⟨?_, ?_, hother', sameBut_trans (sameBut_mono hsame' (by simp)) (by simp [SameBut])⟩
      · rw [hwru', hrcu']
      · rw [← hstays]
        exact hport'
    case manager =>
      rintro m hm hmanager hsending hcollector after
      have hidle : a.collector.queuedOn p = false ∧ a.collector.sendingOn p = false := by
        unfold AlertCopy.queuedOn AlertCopy.sendingOn
        rcases hcollector with h | h | h <;> simp [h]
      have hstays : alertQueuedOn p (applyFlow flow s) = false := by
        simp [hqueued, hidle.1, hm, hsending]
      have hon : m.sendingOn p = true := by simp [AlertCopy.sendingOn, hmanager, hsending]
      have hended := alertEnded_of_manager (s := w) (by rw [hwru', ha]) (hwru' ▸ htest)
        (hwru' ▸ hwait) hidle.2 hm hon
      refine ⟨_, hexec.trans (congrArg _ hended), ?_⟩
      refine ⟨?_, ?_, hother', sameBut_trans (sameBut_mono hsame' (by simp)) (by simp [SameBut])⟩
      · rw [hwru', hrcu']
      · refine hport'.trans ?_
        rw [hstays]
        rfl

end Sys2Proof.Proofs
end

section
/-! SUPPORT. Answers at egress, with the settled statement of an answer's egress start. -/

namespace Sys2Proof.Proofs

open Sys2Proof Sys2Proof.Machine Sys2Proof.Safety

variable {s : State} {p : Port}

/-! ### The octets of an originated frame (R81, R217) -/

/-- The octets of an untagged originated frame from its time type to its flags. -/
def gtpFields (typ : BitVec 16) (kind : Nat) (domain : Byte) (flags : Nat) : List Byte :=
  be 2 typ.toNat ++ (be 1 1 ++ (be 1 kind ++ (be 1 domain.toNat ++ be 1 flags)))

theorem gtpFields_length (typ : BitVec 16) (kind : Nat) (domain : Byte) (flags : Nat) :
    (gtpFields typ kind domain flags).length = 6 := by simp [gtpFields]

theorem slice_within {a : List Byte} {k n : Nat} (b : List Byte) (h : k + n ≤ a.length) :
    slice k n (a ++ b) = slice k n a := by
  rw [slice, slice, List.drop_append_of_le_length (by omega), List.take_append_of_le_length]
  rw [List.length_drop]
  omega

section
variable (dst src : Address) (typ : BitVec 16) (kind : Nat) (domain : Byte) (flags : Nat) (seq : Seq)
  (body c : List Byte)

theorem gtpFrame_addresses (tag : Option (BitVec 32)) :
    ∃ rest, gtpFrame dst src tag typ kind domain flags seq body =
      be 6 dst.toNat ++ (be 6 src.toNat ++ rest) := by
  unfold gtpFrame padTo60
  simp only [List.append_assoc]
  exact ⟨_, rfl⟩

theorem gtpFrame_untagged : ∃ rest, gtpFrame dst src none typ kind domain flags seq body =
    be 6 dst.toNat ++ be 6 src.toNat ++ (gtpFields typ kind domain flags ++
      (be 2 seq.toNat ++ be 2 body.length ++ be 6 0 ++ (body ++ rest))) := by
  unfold gtpFrame padTo60 gtpFields
  simp only [List.append_assoc, List.nil_append]
  exact ⟨_, rfl⟩

theorem gtpFrame_destination (tag : Option (BitVec 32)) :
    (gtpFrame dst src tag typ kind domain flags seq body ++ c).take 6 = be 6 dst.toNat := by
  obtain ⟨rest, heq⟩ := gtpFrame_addresses dst src typ kind domain flags seq body tag
  rw [heq, List.append_assoc]
  exact slice_append_left _ (be_length ..)

theorem gtpFrame_source (tag : Option (BitVec 32)) :
    slice 6 6 (gtpFrame dst src tag typ kind domain flags seq body ++ c) = be 6 src.toNat := by
  obtain ⟨rest, heq⟩ := gtpFrame_addresses dst src typ kind domain flags seq body tag
  rw [heq, List.append_assoc, List.append_assoc]
  exact (slice_append_right 0 6 _ (be_length ..)).trans (slice_append_left _ (be_length ..))

theorem gtpFrame_fields : slice 12 6 (gtpFrame dst src none typ kind domain flags seq body ++ c) =
    gtpFields typ kind domain flags := by
  obtain ⟨rest, heq⟩ := gtpFrame_untagged dst src typ kind domain flags seq body
  rw [heq, List.append_assoc _ _ c, List.append_assoc _ _ c]
  exact (slice_append_right 0 6 _ (by simp)).trans (slice_append_left _ (gtpFields_length ..))

theorem gtpFrame_body {k n : Nat} (h : k + n ≤ body.length) :
    slice (untaggedBodyAt + k) n (gtpFrame dst src none typ kind domain flags seq body ++ c) =
      slice k n body := by
  obtain ⟨rest, heq⟩ := gtpFrame_untagged dst src typ kind domain flags seq body
  have hfront : gtpFrame dst src none typ kind domain flags seq body ++ c =
      (be 6 dst.toNat ++ be 6 src.toNat ++ gtpFields typ kind domain flags ++
        (be 2 seq.toNat ++ be 2 body.length ++ be 6 0)) ++ (body ++ (rest ++ c)) := by
    rw [heq]
    simp only [List.append_assoc]
  rw [hfront, slice_append_right k n _ (by simp [gtpFields_length]), slice_within _ h]

end

/-! ### The body of an answer (12.1.2) -/

theorem answerBody_eq (ans : Answer) (t3 : Stamp) : ∃ rest, answerBody ans t3 =
    ans.ts.octets ++ ((if ans.served then ans.t2 else {}).octets ++ (t3.octets ++ rest)) := by
  unfold answerBody
  simp only [List.append_assoc]
  exact ⟨_, rfl⟩

theorem answerBody_stamps (ans : Answer) (t3 : Stamp) :
    slice 0 10 (answerBody ans t3) = ans.ts.octets ∧
    slice 10 10 (answerBody ans t3) = (if ans.served then ans.t2 else {}).octets ∧
    slice 20 10 (answerBody ans t3) = t3.octets := by
  obtain ⟨rest, heq⟩ := answerBody_eq ans t3
  rw [heq]
  refine ⟨slice_append_left _ (stampOctets_length _),
    (slice_append_right 0 10 _ (stampOctets_length _)).trans (slice_append_left _ (stampOctets_length _)), ?_⟩
  rw [← List.append_assoc]
  exact (slice_append_right 0 10 _ (by simp)).trans (slice_append_left _ (stampOctets_length _))

theorem answerBody_length (ans : Answer) (t3 : Stamp) : 30 ≤ (answerBody ans t3).length := by
  obtain ⟨rest, heq⟩ := answerBody_eq ans t3
  rw [heq]
  simp only [List.length_append, stampOctets_length]
  omega

/-- The octets of an ANSWER at the places that O47 names. -/
theorem answerFrame_octets (ans : Answer) (t3 : Stamp) (epoch : Epoch) (c : List Byte) (htag : ans.tag = none) :
    slice 12 6 (answerFrame ans t3 epoch ++ c) = be 2 ans.timeType.toNat ++ [1, 2, ans.domain,
        BitVec.ofNat 8 ((if ans.served then 0 else 1) + (if epoch = ans.epoch then 0 else 2))] ∧
      slice 28 10 (answerFrame ans t3 epoch ++ c) = ans.ts.octets ∧
      slice 38 10 (answerFrame ans t3 epoch ++ c) = (if ans.served then ans.t2 else {}).octets ∧
      slice 48 10 (answerFrame ans t3 epoch ++ c) = t3.octets := by
  have hlength := answerBody_length ans t3
  obtain ⟨hts, ht2, ht3⟩ := answerBody_stamps ans t3
  rw [answerFrame, htag]
  refine ⟨?_, (gtpFrame_body (k := 0) (h := by omega) ..).trans hts,
    (gtpFrame_body (k := 10) (h := by omega) ..).trans ht2,
    (gtpFrame_body (k := 20) (h := by omega) ..).trans ht3⟩
  rw [gtpFrame_fields]
  simp [gtpFields, answerFlags, be]

/-! ### The egress start of an answer (R82, R192) -/

theorem choose_of_urgent {e : Egm} {x : QueueEntry} (hhead : e.queue.head? = some x)
    (h : x.source.urgent = true) : choose e = some (.entry x.source) := by
  obtain ⟨rest, hq⟩ := List.head?_eq_some_iff.mp hhead
  rw [choose, hq, List.find?_cons_of_pos (p := fun y : QueueEntry => y.source.urgent) h]

theorem getD_modify_same (n : Nat) (f : Slot → Slot) {l : List Slot} (h : n < l.length) :
    (l.modify n f).getD n {} = f (l.getD n {}) := by
  simp [List.getD_eq_getElem?_getD, h]

/-- Settles O47: an answer goes before all other entries, and its frame is formed at its egress start. -/
theorem answerStampedAtEgress : Obligations.AnswerStampedAtEgress := by
  intro p flow s n ans s1 hlink idle hhead hn hans t3
  have htaken : takeBoundary p s1 = startAnswer p n s1 := by
    rw [takeBoundary, choose_of_urgent hhead rfl]
    rfl
  have hslots : s1.anu = s.anu := by simp [s1]
  have hrcu : s1.rcu = s.rcu := by simp [s1]
  have ht3 : answerSendTime p ans s1 = t3 := by
    have hlast : lastNano = 281474976710656 * 1000000000 - 1 := by norm_num
    rw [answerSendTime, egressStamp, hrcu, hlast]
  have hstart : startAnswer p n s1 = changeSlot n
      (fun sl => { sl with answer := some { ans with egress := some (t3, s.rcu.epoch) } })
      (s1.setPort p (lineTaken (s1.port p) (.slot n) (answerFrame ans t3 s.rcu.epoch))) := by
    rw [startAnswer, hslots, hans]
    dsimp only
    rw [ht3, putOnLine_eq, setPort_rcu, hrcu]
  refine ⟨_, exec_frameBoundary hlink idle, ?_⟩
  change ((takeBoundary p s1).anu.slots.getD n {}).answer = _ ∧
    (∃ o, ((takeBoundary p s1).port p).egress = _ ∧ _) ∧ SameBut _ s (takeBoundary p s1)
  rw [htaken, hstart]
  refine ⟨?_, ⟨_, ?_, checkIsGood_append _, gtpFrame_destination .., gtpFrame_source ..,
    answerFrame_octets ans t3 s.rcu.epoch _⟩, ?_⟩
  · change (((s1.setPort _ _).anu.slots.modify n _).getD n {}).answer = _
    rw [getD_modify_same n _ (by simpa [hslots] using hn)]
  · change ((s1.setPort _ _).port p).egress = _
    rw [setPort_port_same]
    rfl
  · simp [SameBut, changeSlot, s1]

end Sys2Proof.Proofs
end

section
/-! SUPPORT. What the processing of a query by DTR does not read, and the settled statements of the queries. -/

namespace Sys2Proof.Proofs

open Sys2Proof Sys2Proof.Machine Sys2Proof.Safety

variable {s : State} {p : Port} {f g : State → State}

/-! ### Effects that neither read nor write the frame path and the answers -/

/-- The state with FCL and ANU replaced. -/
def withFront (F : Fcl) (A : Anu) (s : State) : State := { s with fcl := F, anu := A }

/-- An effect that neither reads nor writes FCL and ANU. -/
def FrontBlind (f : State → State) : Prop := ∀ F A s, f (withFront F A s) = withFront F A (f s)

theorem FrontBlind.comp (hg : FrontBlind g) (hf : FrontBlind f) : FrontBlind fun s => g (f s) := fun F A s =>
  (congrArg g (hf F A s)).trans (hg F A (f s))

theorem FrontBlind.ite (hf : FrontBlind f) (hg : FrontBlind g) (c : State → Prop) [DecidablePred c]
    (hc : ∀ F A s, c (withFront F A s) ↔ c s) : FrontBlind fun s => if c s then f s else g s := fun F A s => by
  by_cases h : c s
  · simp only [if_pos h, if_pos ((hc F A s).mpr h), hf F A s]
  · simp only [if_neg h, if_neg fun h' => h ((hc F A s).mp h'), hg F A s]

theorem dueCheck_frontBlind : FrontBlind dueCheck :=
  FrontBlind.ite (f := buildReport) (g := id) (fun _ _ _ => rfl) (fun _ _ _ => rfl) (fun s => reportCanBuild s = true)
    fun _ _ _ => Iff.rfl

theorem latch_frontBlind (b : Nat) : FrontBlind (latch b) :=
  FrontBlind.ite (f := id) (fun _ _ _ => rfl) (fun _ _ _ => rfl) (fun s => s.wru.pending.getLsbD b = true)
    fun _ _ _ => Iff.rfl

theorem giveEdge_frontBlind (b : Nat) (e : Edge) (select : EdgeSelect) : FrontBlind (giveEdge b e select) :=
  FrontBlind.ite ((latch_frontBlind b).comp fun _ _ _ => rfl) (fun _ _ _ => rfl)
    (fun _ => select.latches e = true) fun _ _ _ => Iff.rfl

theorem giveChange_frontBlind (b : Nat) (before now : Bool) (select : EdgeSelect) :
    FrontBlind (giveChange b before now select) :=
  FrontBlind.ite (f := id) (fun _ _ _ => rfl) (giveEdge_frontBlind b _ select) (fun _ => before = now)
    fun _ _ _ => Iff.rfl

theorem offer_frontBlind (r : Record) : FrontBlind (offer r) :=
  FrontBlind.ite (dueCheck_frontBlind.comp (f := fun s => decidePressure { s with rrg := s.rrg.write r })
      fun _ _ _ => rfl)
    ((latch_frontBlind 53).comp fun _ _ _ => rfl)
    (fun s => s.rrg.count < classLimit s.rrg r.body) fun _ _ _ => Iff.rfl

theorem rackNotice_frontBlind (cause : RackCause) (old new : DState) (value : Int) :
    FrontBlind (rackNotice cause old new value) := fun F A _ => offer_frontBlind _ F A _

theorem serverNotice_frontBlind (i : Nat) (sv : Server) (old new : Option SState) (cause : ServerCause) :
    FrontBlind (serverNotice i sv old new cause) := fun F A _ => offer_frontBlind _ F A _

theorem buildAlert_frontBlind : FrontBlind buildAlert :=
  FrontBlind.ite
    (f := fun s => pushEntry s.mgu.managerPort .alert (pushEntry s.mgu.station.collectorPort .alert (alertFormed s)))
    (g := fun s => pushEntry s.mgu.station.collectorPort .alert (alertFormed s)) (fun _ _ _ => rfl)
    (fun _ _ _ => rfl) (fun s => managerCopy s = .separate) fun _ _ _ => Iff.rfl

theorem alertTest_frontBlind : FrontBlind alertTest :=
  FrontBlind.ite (g := id) buildAlert_frontBlind (fun _ _ _ => rfl)
    (fun s => alertCanBuild s = true) fun _ _ _ => Iff.rfl

theorem finish_frontBlind : FrontBlind finish :=
  FrontBlind.ite (g := id) (alertTest_frontBlind.comp fun _ _ _ => rfl) (fun _ _ _ => rfl)
    (fun s => s.wru.testDue = true) fun _ _ _ => Iff.rfl

/-- The majority condition and its counts formed anew, the change not given yet (R112). -/
def majorityFormed (s : State) : State := { s with dtr := { s.dtr with
  majority := majorityHolds s.dtr.settings.majorityFloor (evaluatedCount s.dtr.servers)
    (plusCount s.dtr.servers) (minusCount s.dtr.servers)
  evaluated := evaluatedCount s.dtr.servers
  plus := plusCount s.dtr.servers
  minus := minusCount s.dtr.servers } }

/-- The notice of a change of the majority condition offered, its edge not given yet (R112). -/
def majorityNoticed (s : State) : State :=
  rackNotice (if (majorityFormed s).dtr.majority then .majorityOn else .majorityOff) s.dse.state s.dse.state
    ((plusCount s.dtr.servers : Int) - minusCount s.dtr.servers) (majorityFormed s)

theorem recomputeMajority_eq (s : State) : recomputeMajority s =
    if (majorityFormed s).dtr.majority = s.dtr.majority then majorityFormed s
    else giveChange 49 s.dtr.majority (majorityFormed s).dtr.majority (majorityNoticed s).wru.select49
      (majorityNoticed s) := by
  by_cases h : (majorityFormed s).dtr.majority = s.dtr.majority
  · rw [if_pos h]
    exact if_pos h
  · rw [if_neg h]
    exact if_neg h

theorem majorityFormed_frontBlind : FrontBlind majorityFormed := fun _ _ _ => rfl

theorem majorityNoticed_frontBlind : FrontBlind majorityNoticed := fun F A s =>
  rackNotice_frontBlind _ _ _ _ F A (majorityFormed s)

theorem recomputeMajority_frontBlind : FrontBlind recomputeMajority := by
  intro F A s
  rw [recomputeMajority_eq, recomputeMajority_eq, majorityNoticed_frontBlind F A, majorityFormed_frontBlind F A,
    giveChange_frontBlind _ _ _ _ F A, apply_ite (withFront F A)]
  rfl

theorem sampleOutputs_frontBlind (i : Nat) (old : Server) (m : Sample) : FrontBlind (sampleOutputs i old m) := by
  intro F A s
  unfold sampleOutputs
  cases m.cause with
  | none =>
    dsimp only
    rw [giveChange_frontBlind _ _ _ _ F A, giveChange_frontBlind _ _ _ _ F A]
    rfl
  | some c =>
    dsimp only
    rw [giveChange_frontBlind _ _ _ _ F A, serverNotice_frontBlind _ _ _ _ _ F A,
      giveChange_frontBlind _ _ _ _ F A]
    rfl

theorem setServer_frontBlind (i : Nat) (e : Option Server) : FrontBlind (setServer i e) := fun _ _ _ => rfl

theorem countDtr_frontBlind (f : DtrCounters → DtrCounters) : FrontBlind (countDtr f) := fun _ _ _ => rfl

theorem sampleEntry_frontBlind (i : Nat) (ing : Ingress) (ts : Stamp) (d : BitVec 32) :
    FrontBlind (sampleEntry i ing ts d) := by
  intro F A s
  unfold sampleEntry
  rw [show serverAt i (withFront F A s) = serverAt i s from rfl]
  cases serverAt i s with
  | none => rfl
  | some sv =>
    dsimp only
    rw [setServer_frontBlind _ _ F A, countDtr_frontBlind _ F A, sampleOutputs_frontBlind _ _ _ F A,
      recomputeMajority_frontBlind F A]
    rfl

theorem trackQuery_frontBlind (src : Address) (ing : Ingress) (ts : Stamp) (d : BitVec 32) :
    FrontBlind (trackQuery src ing ts d) := by
  intro F A s
  unfold trackQuery
  rw [show findServer src (withFront F A s) = findServer src s from rfl,
    show firstEmpty (withFront F A s) = firstEmpty s from rfl]
  cases findServer src s with
  | some i => exact sampleEntry_frontBlind i ing ts d F A s
  | none =>
    dsimp only
    rw [apply_ite (withFront F A)]
    cases firstEmpty s with
    | none => rfl
    | some i =>
      dsimp only
      rw [setServer_frontBlind _ _ F A, countDtr_frontBlind _ F A, countDtr_frontBlind _ F A,
        serverNotice_frontBlind _ _ _ _ _ F A, sampleEntry_frontBlind _ _ _ _ F A]
      rfl

end Sys2Proof.Proofs
end

section
/-! SUPPORT. The end of a query, with its settled statements. -/

namespace Sys2Proof.Proofs

open Sys2Proof Sys2Proof.Machine Sys2Proof.Safety

variable {s : State} {p : Port}

/-! ### The walk's outcome -/

theorem exec_queryEnd {flow : Flow} {a : Arriving} (h : EndsGoodAs .query p flow a s) :
    exec (.queryEnd p flow) s = .next (finish (takeQuery p a (ended p flow a s))) := by
  rw [← endsGood_eq (isFor := fun c => c == .query) h rfl (takeQuery p)]
  rfl

/-- An overrun is charged and tracked, and leaves the other blocks as the tracking does. -/
theorem takeQuery_overrun {a : Arriving} {m : Nat} (h : queryWalk a s = .overrun m) : takeQuery p a s =
    withFront (chargeOverrun m p s).fcl (chargeOverrun m p s).anu (trackArrived a s) := by
  rw [takeQuery, h]
  exact trackQuery_frontBlind _ _ _ _ (chargeOverrun m p s).fcl (chargeOverrun m p s).anu s

theorem finish_withFront (F : Fcl) (A : Anu) (s : State) :
    finish (withFront F A s) = withFront F A (finish s) := finish_frontBlind F A s

theorem withFront_sameBut (F : Fcl) (A : Anu) (s : State) : SameBut [.fcl, .anu] s (withFront F A s) := by
  simp [SameBut, withFront]

theorem trackQuery_sameBut (src : Address) (ing : Ingress) (ts : Stamp) (d : BitVec 32) (s : State) :
    SameBut [.dtr, .wru, .rrg, .rpe, .egm] s (trackQuery src ing ts d s) := by
  simp [SameBut]

theorem ended_sameBut (p : Port) (flow : Flow) (a : Arriving) (s : State) :
    SameBut [.fcl, .egm] s (ended p flow a s) := by
  simp [SameBut]

theorem ended_filters (p : Port) (flow : Flow) (a : Arriving) (s : State) :
    (ended p flow a s).fcl.filters = s.fcl.filters := by
  rw [ended, closeArrival_filters, applyFlow_filters]

/-- The filters after the hit of the one that dropped a query, if one did (R62). -/
def hitCounted (filters : List Filter) : Option Nat → List Filter
  | none => filters
  | some i => filters.modify i fun f => { f with hits := bump f.hits }

/-- A query without a claim and an overrun is counted unclassified, and the hit of the PASS filter that
dropped it. -/
theorem takeQuery_dropped {a : Arriving} {hit : Option Nat} (h : queryWalk a s = .dropped hit) :
    ∃ F, takeQuery p a s = { s with fcl := F } ∧
      F.ctr.get p = { s.fcl.ctr.get p with unclassified := bump (s.fcl.ctr.get p).unclassified } ∧
      F.filters = hitCounted s.fcl.filters hit := by
  rw [takeQuery, h]
  cases hit with
  | none => exact ⟨_, rfl, perPort_get_set_same .., rfl⟩
  | some i => exact ⟨_, rfl, perPort_get_set_same .., rfl⟩

/-- Settles O34: an overrun leaves every block but FCL and ANU as DTR's processing of the query leaves it. -/
theorem unansweredQueryCounted : Obligations.UnansweredQueryCounted := by
  intro p flow s a m hit hends hdue s1 body tracked
  have hended : SameBut [.fcl, .egm] s s1 := ended_sameBut p flow a s
  have hfilters : s1.fcl.filters = s.fcl.filters := ended_filters p flow a s
  refine ⟨fun hwalk => ⟨_, exec_queryEnd hends, ?_⟩, fun hwalk hm => ⟨_, exec_queryEnd hends, ?_⟩⟩
  · obtain ⟨F, htaken, hcounted, hhit⟩ := takeQuery_dropped (p := p) hwalk
    rw [htaken, finish_of_no_test (by simp [s1, hdue])]
    refine ⟨hcounted, ?_, by simp [SameBut, s1], ?_⟩
    · rw [← hfilters, hhit]
      cases hit <;> rfl
    · exact sameBut_trans hended (by simp [SameBut, s1])
  · rw [takeQuery_overrun hwalk, finish_withFront]
    have hkept : SameBut [.fcl, .anu] tracked (withFront (chargeOverrun m p s1).fcl (chargeOverrun m p s1).anu
        (finish (trackArrived a s1))) := withFront_sameBut _ _ _
    refine ⟨perPort_get_set_same .., hfilters, ?_, hkept, ?_⟩
    · have hanu : s1.anu = s.anu := by simp [s1]
      rw [← hanu]
      rfl
    · have htracked : SameBut [.dtr, .wru, .rrg, .rpe, .egm] s1 (trackArrived a s1) := trackQuery_sameBut ..
      exact sameBut_trans (sameBut_mono hended (by simp)) (sameBut_trans (sameBut_mono htracked (by simp))
        (sameBut_trans (sameBut_mono (finish_sameBut _) (by simp)) (sameBut_mono hkept (by simp))))

/-! ### The tracking of a query leaves the links -/

section
variable {P : State → Prop} (h : Indifferent P)
include h

theorem Indifferent.sampleOutputs (i : Nat) (old : Server) (m : Sample) (s : State) (hs : P s) :
    P (sampleOutputs i old m s) := by
  unfold Machine.sampleOutputs
  refine h.giveChange _ _ _ _ _ ?_
  cases m.cause with
  | none => exact h.giveChange _ _ _ _ _ hs
  | some c => exact h.offer _ _ (h.giveChange _ _ _ _ _ hs)

theorem Indifferent.sampleEntry (i : Nat) (ing : Ingress) (ts : Stamp) (d : BitVec 32) (s : State) (hs : P s) :
    P (sampleEntry i ing ts d s) := by
  unfold Machine.sampleEntry
  cases serverAt i s with
  | none => exact hs
  | some sv => exact h.recomputeMajority _ (h.sampleOutputs _ _ _ _ (h.dtr _ _ (h.dtr _ _ hs)))

theorem Indifferent.trackQuery (src : Address) (ing : Ingress) (ts : Stamp) (d : BitVec 32) (s : State)
    (hs : P s) : P (trackQuery src ing ts d s) := by
  unfold Machine.trackQuery
  cases findServer src s with
  | some i => exact h.sampleEntry _ _ _ _ _ hs
  | none =>
    dsimp only
    split
    · cases firstEmpty s with
      | none => exact h.dtr _ _ hs
      | some i => exact h.sampleEntry _ _ _ _ _ (h.offer _ _ (h.dtr _ _ (h.dtr _ _ hs)))
    · exact h.dtr _ _ hs

end

/-! ### The slot of a query (R77, R78) -/

theorem serverAt_of_findServer {a : Address} {j : Nat} (h : findServer a s = some j) :
    ∃ sv, serverAt j s = some sv := by
  obtain ⟨hlt, hholds, _⟩ := List.findIdx?_eq_some_iff_getElem.mp h
  cases he : s.dtr.servers[j] with
  | none => rw [he] at hholds; cases hholds
  | some sv => exact ⟨sv, by rw [serverAt, List.getElem?_eq_getElem hlt, he]; rfl⟩

/-- An answer with the requester's tracking state, as far as DTR holds one (R78). -/
def completedAnswer (a : Address) (s : State) (ans : Answer) : Answer :=
  match findServer a s with
  | none => ans
  | some i =>
    match serverAt i s with
    | none => ans
    | some sv =>
      { ans with serverIndex := BitVec.ofNat 8 i, serverState := some sv.state, fo := sv.fo.getD 0 }

/-- A slot whose answer takes the requester's tracking state. -/
def completedSlot (a : Address) (s : State) (sl : Slot) : Slot :=
  { sl with answer := sl.answer.map (completedAnswer a s) }

theorem changeSlot_of_unchanged {f : Slot → Slot} (h : f = id) (n : Nat) : changeSlot n f s = s := by
  rw [changeSlot, h, List.modify_id]

theorem completeSlot_eq (n : Nat) (a : Address) (s : State) :
    completeSlot n a s = changeSlot n (completedSlot a s) s := by
  unfold completeSlot
  cases hf : findServer a s with
  | none =>
    refine (changeSlot_of_unchanged (funext fun sl => ?_) n).symm
    have hsame : completedAnswer a s = id := funext fun ans => by rw [completedAnswer, hf]; rfl
    rw [completedSlot, hsame, Option.map_id]
    rfl
  | some i =>
    obtain ⟨sv, hsv⟩ := serverAt_of_findServer hf
    have heq : completedAnswer a s = fun ans => { ans with
        serverIndex := BitVec.ofNat 8 i, serverState := some sv.state, fo := sv.fo.getD 0 } :=
      funext fun ans => by simp only [completedAnswer, hf, hsv]
    dsimp only
    rw [hsv]
    unfold completedSlot
    rw [heq]

/-- The tracking state that an answer takes. -/
theorem completedAnswer_eq (a : Address) (s : State) (ans : Answer) : ∃ index state fo,
    completedAnswer a s ans = { ans with serverIndex := index, serverState := state, fo := fo } ∧
    (findServer a s = none → index = ans.serverIndex ∧ state = ans.serverState ∧ fo = ans.fo) ∧
    ∀ j, findServer a s = some j → index = BitVec.ofNat 8 j ∧ state = (serverAt j s).map Server.state ∧
      fo = ((serverAt j s).bind Server.fo).getD 0 := by
  unfold completedAnswer
  cases hf : findServer a s with
  | none => exact ⟨_, _, _, rfl, fun _ => ⟨rfl, rfl, rfl⟩, nofun⟩
  | some i =>
    obtain ⟨sv, hsv⟩ := serverAt_of_findServer hf
    dsimp only
    rw [hsv]
    refine ⟨_, _, _, rfl, nofun, fun j hj => ?_⟩
    cases hj
    rw [hsv]
    exact ⟨rfl, rfl, rfl⟩

/-- A claimed slot with the requester's tracking state, the query tracked and the ANSWER entry queued. -/
theorem takeQuery_claim {a : Arriving} {i n : Nat} (h : queryWalk a s = .claim i n)
    (hlink : (s.port p).link = true) : ∃ slots, takeQuery p a s =
      withFront (countHit i s).fcl { s.anu with slots := slots } (pushEntry p (.slot n) (trackArrived a s)) ∧
      slots = ((claimSlot n p a s).anu.slots).modify n
        (completedSlot (sourceAddress a.octets) (trackArrived a s)) := by
  refine ⟨_, ?_, rfl⟩
  have hup : ((trackArrived a s).port p).link = true := (link_indifferent p true).trackQuery _ _ _ _ _ hlink
  have htracked : trackArrived a (claimSlot n p a (countHit i s)) =
      withFront (countHit i s).fcl (claimSlot n p a s).anu (trackArrived a s) :=
    trackQuery_frontBlind _ _ _ _ (countHit i s).fcl (claimSlot n p a s).anu s
  rw [takeQuery, h]
  dsimp only
  rw [htracked, completeSlot_eq, queueAnswer]
  exact if_pos hup

theorem mem_queue_finish {e : QueueEntry} (h : e ∈ (s.port p).queue) : e ∈ ((finish s).port p).queue := by
  unfold finish
  split
  · obtain ⟨u, hu⟩ : ∃ u, u = { s with wru := { s.wru with testDue := false } } := ⟨_, rfl⟩
    have hport : u.port p = s.port p := by rw [hu]; rfl
    rw [← hu]
    by_cases hp : p = u.mgu.station.collectorPort
    · rw [hp] at hport ⊢
      rw [alertTest_port_collector, hport, ← hp]
      exact List.mem_append_left _ h
    · rw [eq_other_of_ne hp] at hport ⊢
      rw [alertTest_port_other]
      rw [eq_other_of_ne hp] at h
      split
      · rw [hport]
        exact List.mem_append_left _ h
      · rw [hport]
        exact h
  · exact h

/-- Settles O33: the claim is made before DTR tracks the query, which does not read it. -/
theorem queryClaimsSlot : Obligations.QueryClaimsSlot := by
  intro p flow s a i n hends hwalk hn hlink s1 body tracked queued slot
  obtain ⟨slots, htaken, hslots⟩ := takeQuery_claim hwalk hlink
  have hanu : s1.anu = s.anu := by simp [s1]
  have hclaimed : (claimSlot n p a s1).anu.slots = s.anu.slots.modify n fun sl => { sl with
      answer := some (claimedAnswer p a s1)
      unserved := if isServed a s1 then sl.unserved else bump sl.unserved } := by rw [← hanu]; rfl
  rw [hclaimed] at hslots
  obtain ⟨t, ht⟩ : ∃ t, t = withFront (countHit i s1).fcl { s1.anu with slots := slots } queued := ⟨_, rfl⟩
  have hexec : exec (.queryEnd p flow) s = .next t := by
    rw [exec_queryEnd hends, htaken, finish_withFront, ht]
    rfl
  have hslot : t.anu.slots.getD n {} = completedSlot (sourceAddress a.octets) tracked { slot with
      answer := some (claimedAnswer p a s1)
      unserved := if isServed a s1 then slot.unserved else bump slot.unserved } := by
    rw [ht]
    change slots.getD n {} = _
    rw [hslots, getD_modify_same _ _ (by simpa using hn), getD_modify_same _ _ hn]
    rfl
  have hdtr : t.dtr = tracked.dtr := by rw [ht]; simp [withFront, queued]
  have hfind : findServer (sourceAddress a.octets) t = findServer (sourceAddress a.octets) tracked := by
    rw [findServer, findServer, hdtr]
  have hat (j : Nat) : serverAt j t = serverAt j tracked := by rw [serverAt, serverAt, hdtr]
  obtain ⟨index, state, fo, hcompleted, hunknown, hknown⟩ :=
    completedAnswer_eq (sourceAddress a.octets) tracked (claimedAnswer p a s1)
  have hanswer : (t.anu.slots.getD n {}).answer = some { claimedAnswer p a s1 with
      serverIndex := index, serverState := state, fo := fo } := by
    rw [hslot, completedSlot, ← hcompleted]
    rfl
  have hkept : SameBut [.fcl, .anu] queued t := by
    rw [ht]
    exact withFront_sameBut _ _ _
  have hmgu : s1.mgu = s.mgu := by simp [s1]
  refine ⟨t, hexec, hkept, ?_, ⟨_, hanswer, rfl, rfl, rfl, rfl, rfl, rfl, rfl, rfl, rfl, ?_, ?_, ?_, ?_, ?_, rfl,
    ?_, ?_⟩, ?_, ?_, ?_, fun m hm => ?_, ?_⟩
  · rw [hanswer, hslot, completedSlot]
    dsimp only
    rw [Option.map_some, hcompleted, isServed, hanu]
    refine congrArg (fun u => ({ slot with answer := _, unserved := u } : Slot)) (if_congr ?_ rfl rfl)
    simp
  · change uncertainty s1 = uncertainty s
    simp [uncertainty, s1]
  · change isServed a s1 = _
    rw [isServed, hanu]
  · exact congrArg (·.station.own) hmgu
  · exact congrArg (·.station.timeType) hmgu
  · exact congrArg (·.station.rackId) hmgu
  · rw [hfind]
    exact hunknown
  · intro j hj
    rw [hfind] at hj
    rw [hat]
    exact hknown j hj
  · rw [ht]
    refine mem_queue_finish (s := tracked.setPort p _) ?_
    rw [setPort_port_same]
    exact List.mem_append_right _ (List.mem_singleton_self _)
  · rw [ht]
    rfl
  · rw [ht]
    change s1.anu.floor = _
    rw [hanu]
  · rw [ht]
    change slots[m.val]? = _
    rw [hslots, List.getElem?_modify_ne _ _ (Ne.symm hm), List.getElem?_modify_ne _ _ (Ne.symm hm)]
  · have htracked : SameBut [.dtr, .wru, .rrg, .rpe, .egm] s1 tracked := trackQuery_sameBut ..
    have hpushed : SameBut [.egm] tracked (tracked.setPort p { tracked.port p with
        queue := (tracked.port p).queue ++ [{ source := .slot n }] }) := by simp [SameBut]
    exact sameBut_trans (sameBut_mono (ended_sameBut p flow a s) (by simp))
      (sameBut_trans (sameBut_mono htracked (by simp)) (sameBut_trans (sameBut_mono hpushed (by simp))
        (sameBut_trans (sameBut_mono (finish_sameBut _) (by simp)) (sameBut_mono hkept (by simp)))))

end Sys2Proof.Proofs
end

section
/-! SUPPORT. The sample of a tracked query, with its settled statement. -/

namespace Sys2Proof.Proofs

open Sys2Proof Sys2Proof.Machine Sys2Proof.Safety

/-! ### What a sample is, by the entry it falls on (R97 to R103) -/

section
variable (st : DriftSettings) (held : Bool) (ing : Ingress) (ts : Stamp) (delay : BitVec 32) (sv : Server)

/-- A sample seeds fo (R97, R98, R100). -/
abbrev Seeds : Prop :=
  sv.state = .silent ∨ sv.fo = none ∨ (sv.sampleEpoch ≠ none ∧ sv.sampleEpoch ≠ some ing.epoch)

/-- The offset sample (R99). -/
abbrev sampleOf : Int := max (-2147483647) (min 2147483647
  (ts.nanos + (if delay.toNat ≤ 1000000 then delay.toNat else sv.allowance.toNat : Nat) - ing.stamp.nanos))

/-- fo after the sample (R100). -/
abbrev foOf : Int :=
  if Seeds ing sv then sampleOf ing ts delay sv else max (-2147483647) (min 2147483647
    (sv.fo.getD 0 + roundDiv (sampleOf ing ts delay sv - sv.fo.getD 0) (2 ^ st.k)))

/-- The sample is wild (R102). -/
abbrev Wild : Prop := st.wildLimit < (sampleOf ing ts delay sv).natAbs

/-- The window's count of queries after the sample, if it neither seeds fo nor completes the window (R101). -/
abbrev windowQueries : Nat := min (sv.windowCount + 1) 65535

/-- The span of the window at the sample (R101). -/
abbrev windowSpan : Int := ing.stamp.nanos - sv.windowTi.nanos

/-- The sample completes the window (R101, R102; assumption 21). -/
abbrev Completes : Prop := ¬Seeds ing sv ∧ ¬Wild st ing ts delay sv ∧ st.w ≤ windowQueries sv ∧
  1000000000 ≤ windowSpan ing sv

/-- The drift after the sample (R97, R101). -/
abbrev driftOf : Option Int :=
  if Completes st ing ts delay sv then some (max (-1000000) (min 1000000
    (Int.tdiv ((foOf st ing ts delay sv - sv.windowFo) * 1000000000) (windowSpan ing sv))))
  else if sv.state = .silent then none else sv.drift

/-- The sample is exceeding (R103). -/
abbrev Exceeds : Prop := st.offsetBound < (foOf st ing ts delay sv).natAbs ∨
  (driftOf st ing ts delay sv).any (fun v => decide (st.rateBound < v.natAbs)) = true

/-- The sample is released (R103). -/
abbrev Released : Prop := (foOf st ing ts delay sv).natAbs ≤ 3 * st.offsetBound / 4 ∧
  (driftOf st ing ts delay sv).all (fun v => decide (v.natAbs ≤ 3 * st.rateBound / 4)) = true

/-- The state of an entry that has returned from silence (R97). -/
abbrev stateWoken : SState := if sv.state = .silent then .probation else sv.state

/-- The watch or release count of an entry that has returned from silence (R97). -/
abbrev runWoken : Nat := if sv.state = .silent then 0 else sv.run

/-- The state, the count and the cause after the sample (R102 to R106). -/
abbrev outcomeOf : SState × Nat × Option ServerCause :=
  if held then (stateWoken sv, runWoken sv, none)
  else evaluation st.confirm (decide (Wild st ing ts delay sv)) (decide (Completes st ing ts delay sv))
    (decide (Exceeds st ing ts delay sv)) (decide (Released st ing ts delay sv)) (stateWoken sv) (runWoken sv)

/-- The entry after the sample. -/
abbrev sampled : Server :=
  { sv with
    state := (outcomeOf st held ing ts delay sv).1
    lastTi := some ing.stamp
    lastQuery := ing.uptime
    sampleEpoch := some ing.epoch
    lastSample := some (sampleOf ing ts delay sv)
    fo := some (foOf st ing ts delay sv)
    windowFo := if Seeds ing sv ∨ Completes st ing ts delay sv then foOf st ing ts delay sv else sv.windowFo
    windowTi := if Seeds ing sv ∨ Completes st ing ts delay sv then ing.stamp else sv.windowTi
    windowCount := if Seeds ing sv ∨ Completes st ing ts delay sv then 0 else windowQueries sv
    drift := driftOf st ing ts delay sv
    run := (outcomeOf st held ing ts delay sv).2.1
    queries := bump sv.queries }

/-! ### The steps of a sample -/

/-- The entry, returned from silence and booked, before its sample is taken. -/
def booked : Server :=
  { sv with
    state := stateWoken sv
    lastTi := some ing.stamp
    lastQuery := ing.uptime
    sampleEpoch := some ing.epoch
    fo := if Seeds ing sv then none else sv.fo
    windowCount := if sv.state = .silent then 0 else sv.windowCount
    drift := if sv.state = .silent then none else sv.drift
    run := runWoken sv
    queries := bump sv.queries }

theorem wake_of_silent {sv : Server} (h : sv.state = .silent) : sv.wake =
    { sv with state := .probation, fo := none, drift := none, windowCount := 0, run := 0 } := if_pos h

theorem wake_of_awake {sv : Server} (h : sv.state ≠ .silent) : sv.wake = sv := if_neg h

theorem reseed_eq (epoch : Epoch) : sv.reseed epoch = { sv with
    fo := if sv.sampleEpoch ≠ none ∧ sv.sampleEpoch ≠ some epoch then none else sv.fo
    sampleEpoch := some epoch } := by
  unfold Server.reseed
  cases sv.sampleEpoch with
  | none => simp
  | some e => simp

theorem reseed_book_wake : (sv.wake.book ing).reseed ing.epoch = booked ing sv := by
  rw [reseed_eq, booked]
  by_cases hsilent : sv.state = .silent
  · simp [wake_of_silent hsilent, Server.book, hsilent]
  · rw [wake_of_awake hsilent]
    by_cases hfo : sv.fo = none
    · simp [Server.book, hsilent, hfo]
    · simp only [Server.book, stateWoken, runWoken, if_neg hsilent]
      exact congrArg (fun fo => ({ sv with
        lastTi := some ing.stamp, lastQuery := ing.uptime, sampleEpoch := some ing.epoch, fo := fo
        queries := bump sv.queries } : Server)) (if_congr (by simp [Seeds, hsilent, hfo]) rfl rfl)

theorem take_of_none {sv : Server} (h : sv.fo = none) (o : Int) (ti : Stamp) (k : Nat) : sv.take o ti k =
    { sv with lastSample := some o, fo := some o, windowFo := o, windowTi := ti, windowCount := 0 } := by
  simp [Server.take, h, filteredOffset]

theorem take_of_some {sv : Server} {fo : Int} (h : sv.fo = some fo) (o : Int) (ti : Stamp) (k : Nat) :
    sv.take o ti k = { sv with lastSample := some o, fo := some (max (-2147483647) (min 2147483647
      (fo + roundDiv (o - fo) (2 ^ k)))) } := by
  simp [Server.take, h, filteredOffset, clampInt]

theorem exceeding_eq : exceeding st sv = decide (st.offsetBound < (sv.fo.getD 0).natAbs ∨
    sv.drift.any (fun v => decide (st.rateBound < v.natAbs)) = true) := by
  unfold exceeding
  cases sv.drift <;> simp

theorem releasedSample_eq : releasedSample st sv = decide ((sv.fo.getD 0).natAbs ≤ 3 * st.offsetBound / 4 ∧
    sv.drift.all (fun v => decide (v.natAbs ≤ 3 * st.rateBound / 4)) = true) := by
  unfold releasedSample releaseOf
  cases sv.drift <;> simp

/-- An entry with the outcome of its evaluation, and the cause of its notice. -/
abbrev evaluatedAs (sv : Server) (e : SState × Nat × Option ServerCause) : Server × Option ServerCause :=
  ({ sv with state := e.1, run := e.2.1 }, e.2.2)

/-- The evaluation of a sample is the tables of R102 to R106. -/
theorem evaluate_eq (wild completed : Bool) : sv.evaluate st wild completed = evaluatedAs sv
    (evaluation st.confirm wild completed (exceeding st sv) (releasedSample st sv) sv.state sv.run) := by
  obtain ⟨r, hr⟩ : ∃ r, r = releasedSample st sv := ⟨_, rfl⟩
  have hwatch (n : Nat) : sv.watchRun st n = evaluatedAs sv
      (if st.confirm ≤ n then (.drifting, 0, some .enterDrift) else (.watch, n, none)) := by
    unfold Server.watchRun
    split <;> rfl
  have hrelease : sv.releaseRun st = evaluatedAs sv
      (if st.confirm ≤ sv.run + 1 then (.inBound, 0, some .leaveDrift) else (sv.state, sv.run + 1, none)) := by
    unfold Server.releaseRun
    split <;> rfl
  have hstays : (sv, none) = evaluatedAs sv (sv.state, sv.run, none) := rfl
  have hgross : (sv.toDrifting, some .gross) = evaluatedAs sv (.drifting, 0, some .gross) := rfl
  have hbound : ({ sv with state := .inBound, run := 0 }, none) = evaluatedAs sv (.inBound, 0, none) := rfl
  have hzero : ({ sv with run := 0 }, none) = evaluatedAs sv (sv.state, 0, none) := rfl
  unfold Server.evaluate evaluation
  rw [← hr, hstays, hgross, hbound, hzero, hrelease, hwatch, hwatch]
  simp only [← apply_ite (evaluatedAs sv)]
  cases hstate : sv.state with
  | silent => rfl
  | drifting => cases wild <;> cases r <;> rfl
  | probation => cases wild <;> rfl
  | inBound => cases wild <;> rfl
  | watch => cases wild <;> rfl

/-- The entry after the steps of a sample but its evaluation. -/
def measured : Server :=
  { sampled st held ing ts delay sv with state := stateWoken sv, run := runWoken sv }

theorem offsetSample_booked : offsetSample (booked ing sv) ts ing.stamp delay = sampleOf ing ts delay sv := rfl

/-- The steps of a sample up to its window (R97 to R101). -/
theorem windowed : (if (booked ing sv).fo.isNone then
      ((booked ing sv).take (sampleOf ing ts delay sv) ing.stamp st.k, false)
    else ((booked ing sv).take (sampleOf ing ts delay sv) ing.stamp st.k).windowStep ing.stamp st.w
      (decide (Wild st ing ts delay sv))) =
    (measured st held ing ts delay sv, decide (Completes st ing ts delay sv)) := by
  by_cases hseeds : Seeds ing sv
  · have hnone : (booked ing sv).fo = none := if_pos hseeds
    have hno : ¬Completes st ing ts delay sv := fun h => h.1 hseeds
    rw [hnone, take_of_none hnone]
    simp [measured, booked, hseeds, hno]
  · have hsome : (booked ing sv).fo = sv.fo := if_neg hseeds
    have hawake : sv.state ≠ .silent := fun h => hseeds (.inl h)
    obtain ⟨fo, hfo⟩ := Option.ne_none_iff_exists'.mp fun h => hseeds (.inr (.inl h))
    rw [hfo] at hsome
    have hnew : foOf st ing ts delay sv = max (-2147483647) (min 2147483647
        (fo + roundDiv (sampleOf ing ts delay sv - fo) (2 ^ st.k))) := by rw [foOf, if_neg hseeds, hfo]; rfl
    rw [hsome, take_of_some hsome, ← hnew]
    have hcount : (booked ing sv).windowCount = sv.windowCount := if_neg hawake
    have hdrift : (booked ing sv).drift = sv.drift := if_neg hawake
    unfold Server.windowStep measured sampled
    rw [if_neg (by simp), hcount]
    by_cases hcompletes : Completes st ing ts delay sv
    · have hall := hcompletes
      obtain ⟨_, hwild, hfull, hlong⟩ := hall
      rw [if_pos ⟨hfull, hlong, decide_eq_false hwild⟩, decide_eq_true hcompletes]
      have hor : Seeds ing sv ∨ Completes st ing ts delay sv := .inr hcompletes
      have hdrifted : driftOf st ing ts delay sv = some (windowDrift sv.windowFo (foOf st ing ts delay sv)
        (windowSpan ing sv)) := if_pos hcompletes
      rw [hdrifted, if_pos hor, if_pos hor, if_pos hor]
      rfl
    · rw [if_neg fun h => hcompletes ⟨hseeds, of_decide_eq_false h.2.2, h.1, h.2.1⟩, decide_eq_false hcompletes]
      have hno : ¬(Seeds ing sv ∨ Completes st ing ts delay sv) := not_or.mpr ⟨hseeds, hcompletes⟩
      have hkept : driftOf st ing ts delay sv = sv.drift := (if_neg hcompletes).trans (if_neg hawake)
      rw [hkept, if_neg hno, if_neg hno, if_neg hno, hdrift]
      rfl

theorem evaluate_measured : (measured st held ing ts delay sv).evaluate st (decide (Wild st ing ts delay sv))
      (decide (Completes st ing ts delay sv)) =
    (sampled st false ing ts delay sv, (outcomeOf st false ing ts delay sv).2.2) := by
  have hfo : ((measured st held ing ts delay sv).fo.getD 0) = foOf st ing ts delay sv := rfl
  have hdrift : (measured st held ing ts delay sv).drift = driftOf st ing ts delay sv := rfl
  have houtcome : outcomeOf st false ing ts delay sv = evaluation st.confirm (decide (Wild st ing ts delay sv))
      (decide (Completes st ing ts delay sv)) (decide (Exceeds st ing ts delay sv))
      (decide (Released st ing ts delay sv)) (stateWoken sv) (runWoken sv) := if_neg Bool.false_ne_true
  rw [evaluate_eq, exceeding_eq, releasedSample_eq, hfo, hdrift]
  unfold sampled measured
  rw [houtcome]

theorem sampleServer_eq : sampleServer st held ing ts delay sv =
    { server := sampled st held ing ts delay sv
      wild := decide (Wild st ing ts delay sv)
      completed := decide (Completes st ing ts delay sv)
      heldBack := held
      cause := (outcomeOf st held ing ts delay sv).2.2 } := by
  unfold sampleServer
  dsimp only
  rw [reseed_book_wake, offsetSample_booked, windowed st held]
  cases held with
  | true =>
    have houtcome : outcomeOf st true ing ts delay sv = (stateWoken sv, runWoken sv, none) := if_pos rfl
    dsimp only
    rw [if_pos rfl]
    unfold sampled measured
    rw [houtcome]
  | false =>
    dsimp only
    rw [if_neg Bool.false_ne_true, evaluate_measured]

end

end Sys2Proof.Proofs
end

section
/-! SUPPORT. The outputs of a tracked query, with the settled statement of its sample. -/

namespace Sys2Proof.Proofs

open Sys2Proof Sys2Proof.Machine Sys2Proof.Safety

variable {s : State}

/-! ### Notices and the majority condition -/

/-- The ring has taken records, as far as there was room for them (R164, R165). -/
structure Noticed (l : List Record) (s t : State) : Prop where
  seq : t.rrg.seq = s.rrg.seq + BitVec.ofNat 16 l.length
  held : s.rrg.count + l.length ≤ 2048 → t.rrg.held = s.rrg.held ++ l
  count : s.rrg.count + l.length ≤ 2048 → t.rrg.count = s.rrg.count + l.length

theorem noticed_nil {s t : State} (h : t.rrg = s.rrg) : Noticed [] s t where
  seq := by simp [h]
  held _ := by simp [h]
  count _ := by simp [h]

theorem Noticed.trans {l l' : List Record} {s t u : State} (h : Noticed l s t) (h' : Noticed l' t u) :
    Noticed (l ++ l') s u where
  seq := by
    rw [h'.seq, h.seq, List.length_append, BitVec.ofNat_add, BitVec.add_assoc]
  held hroom := by
    rw [List.length_append] at hroom
    have hcount := h.count (by omega)
    rw [h'.held (by omega), h.held (by omega), List.append_assoc]
  count hroom := by
    rw [List.length_append] at hroom ⊢
    have hcount := h.count (by omega)
    rw [h'.count (by omega), hcount, Nat.add_assoc]

theorem offer_noticed {r : Record} (hbody : r.body.isStorage = false) (s : State) :
    Noticed [{ r with seq := s.rrg.seq }] s (offer r s) := by
  have hlimit : classLimit s.rrg r.body = 2048 := by simp [classLimit, hbody]
  refine ⟨by simp, fun hroom => offer_held ?_, fun hroom => ?_⟩
  · rw [hlimit]
    simp only [List.length_singleton] at hroom
    omega
  · rcases offer_cases r s with ⟨_, ho⟩ | ⟨hfull, _⟩
    · simp [ho, decidePressure, Rrg.write]
    · rw [hlimit] at hfull
      simp only [List.length_singleton] at hroom
      omega

theorem serverNotice_noticed (i : Nat) (sv : Server) (old new : Option SState) (cause : ServerCause) (s : State) :
    Noticed [{ quality := quality s, seq := s.rrg.seq, date := s.rcu.time.stamp
               body := .server (BitVec.ofNat 8 i) sv.address old new cause sv.fo sv.drift }]
      s (serverNotice i sv old new cause s) :=
  offer_noticed (r := { quality := quality s, date := s.rcu.time.stamp
                        body := .server (BitVec.ofNat 8 i) sv.address old new cause sv.fo sv.drift }) rfl s

theorem rackNotice_noticed (cause : RackCause) (old new : DState) (value : Int) (s : State) :
    Noticed [{ quality := quality s, seq := s.rrg.seq, date := s.rcu.time.stamp
               body := .rack cause old new value }]
      s (rackNotice cause old new value s) :=
  offer_noticed (r := { quality := quality s, date := s.rcu.time.stamp, body := .rack cause old new value }) rfl s

theorem giveChange_noticed (b : Nat) (before now : Bool) (select : EdgeSelect) (s : State) :
    Noticed [] s (giveChange b before now select s) := noticed_nil (by simp)

theorem giveChange_condition_ne {b i : Nat} (hb : b < 54) (hi : i ≠ b) (before now : Bool) (select : EdgeSelect)
    (s : State) : (giveChange b before now select s).wru.condition.getLsbD i = s.wru.condition.getLsbD i := by
  unfold giveChange
  split
  · rfl
  · rw [giveEdge_condition, getLsbD_putBit _ _ _ _ hb, if_neg hi]

theorem giveChange_condition_changed {b : Nat} (hb : b < 54) {before now : Bool} (h : now ≠ before)
    (select : EdgeSelect) (s : State) : (giveChange b before now select s).wru.condition.getLsbD b = now := by
  rw [giveChange, if_neg (Ne.symm h), giveEdge_condition, getLsbD_putBit _ _ _ _ hb, if_pos rfl]
  cases now <;> rfl

/-- The notice of a change of the majority condition (R112). -/
def majorityNotice (s : State) : Record :=
  { quality := quality s, date := s.rcu.time.stamp, seq := s.rrg.seq
    body := .rack (if (recomputeMajority s).dtr.majority then .majorityOn else .majorityOff) s.dse.state
      s.dse.state (((recomputeMajority s).dtr.plus : Int) - (recomputeMajority s).dtr.minus) }

theorem majorityFormed_dtr (s : State) : (majorityFormed s).dtr = (recomputeMajority s).dtr := by
  rw [recomputeMajority_dtr]
  rfl

theorem recomputeMajority_noticed (s : State) :
    Noticed (if (recomputeMajority s).dtr.majority ≠ s.dtr.majority then [majorityNotice s] else [])
      s (recomputeMajority s) := by
  rw [ite_not, majorityNotice, ← majorityFormed_dtr, recomputeMajority_eq]
  split
  · exact noticed_nil rfl
  · have hformed : Noticed [] s (majorityFormed s) := noticed_nil rfl
    exact hformed.trans ((rackNotice_noticed _ _ _ _ (majorityFormed s)).trans (giveChange_noticed ..))

theorem recomputeMajority_condition (s : State) : (recomputeMajority s).wru.condition.getLsbD 49 =
    if (recomputeMajority s).dtr.majority ≠ s.dtr.majority then (recomputeMajority s).dtr.majority
    else s.wru.condition.getLsbD 49 := by
  rw [ite_not, ← majorityFormed_dtr, recomputeMajority_eq]
  by_cases h : (majorityFormed s).dtr.majority = s.dtr.majority
  · rw [if_pos h, if_pos h]
    rfl
  · rw [if_neg h, if_neg h]
    exact giveChange_condition_changed (by decide) h _ _

theorem countP_any (f : Server → Bool) (l : List (Option Server)) : l.countP (fun e => e.any f) =
    l.countP fun e => match e with
      | none => false
      | some sv => f sv :=
  List.countP_congr fun e _ => by cases e <;> rfl

theorem majorityFormed_recomputeMajority (s : State) : MajorityFormed (recomputeMajority s) := by
  have hevaluated (st : SState) : (st == .inBound || st == .watch || st == .drifting) = st.evaluated := by
    cases st <;> rfl
  rw [MajorityFormed, recomputeMajority_dtr]
  simp only [serversWith, recomputeMajority_servers, countP_any, hevaluated]
  exact ⟨rfl, rfl, rfl, (Bool.decide_and ..).symm⟩

/-! ### The outputs of a sample (R96, R110) -/

/-- The records of a sample that gives a cause (R110). -/
def sampleNotices (i : Nat) (old : Server) (m : Sample) (s : State) : List Record :=
  match m.cause with
  | none => []
  | some cause => [{ quality := quality s, seq := s.rrg.seq, date := s.rcu.time.stamp
                     body := .server (BitVec.ofNat 8 i) m.server.address (some old.wake.state)
                       (some m.server.state) cause m.server.fo m.server.drift }]

theorem sampleOutputs_noticed (i : Nat) (old : Server) (m : Sample) (s : State) :
    Noticed (sampleNotices i old m s) s (sampleOutputs i old m s) := by
  unfold sampleOutputs sampleNotices
  cases m.cause with
  | none => exact (giveChange_noticed _ _ _ _ _).trans (giveChange_noticed _ _ _ _ _)
  | some c =>
    obtain ⟨u, hu⟩ : ∃ u, u = giveChange i (warns s.dtr.settings.silentWarn old.state)
      (warns s.dtr.settings.silentWarn old.wake.state) old.select s := ⟨_, rfl⟩
    have hseq : u.rrg.seq = s.rrg.seq := by simp [hu]
    have hrcu : u.rcu = s.rcu := by simp [hu]
    have hquality : quality u = quality s := quality_of_eq hrcu (by simp [hu])
    have hfirst : Noticed [] s u := hu ▸ giveChange_noticed _ _ _ _ _
    dsimp only
    rw [← hu]
    rw [← hquality, ← hseq, ← hrcu]
    exact hfirst.trans ((serverNotice_noticed _ _ _ _ _ u).trans (giveChange_noticed ..))

theorem sampleOutputs_condition (old : Server) (m : Sample) {i : Nat} (hi : i < 48) (s : State) :
    (sampleOutputs i old m s).wru.condition.getLsbD 49 = s.wru.condition.getLsbD 49 := by
  unfold sampleOutputs
  dsimp only
  rw [giveChange_condition_ne (by omega) (by omega)]
  cases m.cause with
  | none => exact giveChange_condition_ne (by omega) (by omega) ..
  | some c =>
    dsimp only
    rw [serverNotice_condition]
    exact giveChange_condition_ne (by omega) (by omega) ..

/-! ### A tracked query of a server in the table -/

section
variable (src : Address) (ing : Ingress) (ts : Stamp) (delay : BitVec 32) {j : Nat} {sv : Server}

/-- The quality at which an evaluation is held (R103). -/
abbrev HeldBack (s : State) : Prop := (quality s).code < 4

/-- The state in which a sample is stored and counted, its outputs not given yet. -/
def sampleStored (j : Nat) (sv : Server) (s : State) : State :=
  countDtr (countSample (sampleServer s.dtr.settings (decide (HeldBack s)) ing ts delay sv))
    (setServer j (some (sampleServer s.dtr.settings (decide (HeldBack s)) ing ts delay sv).server) s)

/-- The outcome of a sample on the entry of a server in the table. -/
abbrev trackedOutcome (sv : Server) (s : State) : SState × Nat × Option ServerCause :=
  if HeldBack s then (stateWoken sv, runWoken sv, none)
  else evaluation s.dtr.settings.confirm (decide (Wild s.dtr.settings ing ts delay sv))
    (decide (Completes s.dtr.settings ing ts delay sv)) (decide (Exceeds s.dtr.settings ing ts delay sv))
    (decide (Released s.dtr.settings ing ts delay sv)) (stateWoken sv) (runWoken sv)

theorem outcomeOf_held (sv : Server) (s : State) :
    outcomeOf s.dtr.settings (decide (HeldBack s)) ing ts delay sv = trackedOutcome ing ts delay sv s := by
  by_cases h : HeldBack s
  · rw [outcomeOf, trackedOutcome, if_pos h, if_pos (decide_eq_true h)]
  · rw [outcomeOf, trackedOutcome, if_neg h, if_neg (by simpa using h)]

theorem sampleEntry_of_serverAt (hat : serverAt j s = some sv) : sampleEntry j ing ts delay s =
    recomputeMajority (sampleOutputs j sv (sampleServer s.dtr.settings (decide (HeldBack s)) ing ts delay sv)
      (sampleStored ing ts delay j sv s)) := by
  rw [sampleEntry, hat]
  rfl

/-- The notice of a sample on entry `j`. -/
abbrev trackedNotice (j : Nat) (sv : Server) (s : State) : List Record :=
  match (trackedOutcome ing ts delay sv s).2.2 with
  | none => []
  | some cause => [{ quality := quality s, seq := s.rrg.seq, date := s.rcu.time.stamp
                     body := .server (BitVec.ofNat 8 j) sv.address (some (stateWoken sv))
                       (some (trackedOutcome ing ts delay sv s).1) cause
                       (some (foOf s.dtr.settings ing ts delay sv)) (driftOf s.dtr.settings ing ts delay sv) }]

theorem wake_state (sv : Server) : sv.wake.state = stateWoken sv := by
  unfold Server.wake stateWoken
  split <;> rfl

theorem sampleNotices_eq (j : Nat) (sv : Server) (s : State) :
    sampleNotices j sv (sampleServer s.dtr.settings (decide (HeldBack s)) ing ts delay sv)
      (sampleStored ing ts delay j sv s) = trackedNotice ing ts delay j sv s := by
  unfold sampleNotices
  rw [sampleServer_eq, wake_state]
  unfold sampled
  rw [outcomeOf_held]
  rfl

/-- The counters after a sample (R102, R103, R116). -/
abbrev trackedCtr (sv : Server) (s : State) : DtrCounters := { s.dtr.ctr with
  tracked := bump s.dtr.ctr.tracked
  wild := if Wild s.dtr.settings ing ts delay sv then bump s.dtr.ctr.wild else s.dtr.ctr.wild
  windows := if Completes s.dtr.settings ing ts delay sv then bump s.dtr.ctr.windows else s.dtr.ctr.windows
  heldEvaluations := if HeldBack s then bump s.dtr.ctr.heldEvaluations else s.dtr.ctr.heldEvaluations }

theorem sampleStored_dtr (j : Nat) (sv : Server) (s : State) : (sampleStored ing ts delay j sv s).dtr =
    { s.dtr with
      servers := s.dtr.servers.set j
        (some (sampled s.dtr.settings (decide (HeldBack s)) ing ts delay sv))
      ctr := trackedCtr ing ts delay sv s } := by
  rw [sampleStored, sampleServer_eq]
  simp only [countDtr_dtr, setServer_dtr, countSample, decide_eq_true_eq]

/-- A tracked query of a server in the table: the entry, the counters, the majority and the records. -/
theorem sampleEntry_spec (hat : serverAt j s = some sv) :
    let t := sampleEntry j ing ts delay s
    let changed := t.dtr.majority ≠ s.dtr.majority
    let notice := trackedNotice ing ts delay j sv s
    let rack : List Record := if changed then
        [{ quality := quality s, date := s.rcu.time.stamp
           seq := s.rrg.seq + BitVec.ofNat 16 notice.length
           body := .rack (if t.dtr.majority then .majorityOn else .majorityOff) s.dse.state
             s.dse.state ((t.dtr.plus : Int) - t.dtr.minus) }]
      else []
    (t.dtr.servers = s.dtr.servers.set j (some (sampled s.dtr.settings (decide (HeldBack s)) ing ts delay sv)) ∧
      t.dtr.settings = s.dtr.settings ∧ t.dtr.ctr = trackedCtr ing ts delay sv s) ∧
    MajorityFormed t ∧ Noticed (notice ++ rack) s t ∧
    (j < 48 → t.wru.condition.getLsbD 49 = if changed then t.dtr.majority else s.wru.condition.getLsbD 49) := by
  rw [sampleEntry_of_serverAt ing ts delay hat]
  obtain ⟨u, hu⟩ : ∃ u, u = sampleOutputs j sv (sampleServer s.dtr.settings (decide (HeldBack s)) ing ts delay sv)
    (sampleStored ing ts delay j sv s) := ⟨_, rfl⟩
  rw [← hu]
  have hdtr : u.dtr = { s.dtr with
      servers := s.dtr.servers.set j (some (sampled s.dtr.settings (decide (HeldBack s)) ing ts delay sv))
      ctr := trackedCtr ing ts delay sv s } := by
    rw [hu, ← sampleStored_dtr]
    simp
  have hmajority : u.dtr.majority = s.dtr.majority := by rw [hdtr]
  have hcondition (hj : j < 48) : u.wru.condition.getLsbD 49 = s.wru.condition.getLsbD 49 := by
    rw [hu, sampleOutputs_condition _ _ hj]
    rfl
  have hnotices : Noticed (trackedNotice ing ts delay j sv s) s u := by
    have hstored : Noticed [] s (sampleStored ing ts delay j sv s) := noticed_nil rfl
    rw [hu, ← sampleNotices_eq]
    exact hstored.trans (sampleOutputs_noticed ..)
  have hrack := recomputeMajority_noticed u
  have hrcu : u.rcu = s.rcu := by rw [hu]; simp [sampleStored]
  have hdse : u.dse = s.dse := by rw [hu]; simp [sampleStored]
  rw [majorityNotice, quality_of_eq hrcu hdse, hrcu, hdse, hnotices.seq, hmajority] at hrack
  refine ⟨?_, majorityFormed_recomputeMajority u, hnotices.trans hrack, fun hj => ?_⟩
  · rw [recomputeMajority_dtr, hdtr]
    exact ⟨rfl, rfl, rfl⟩
  · rw [recomputeMajority_condition, hmajority, hcondition hj]

theorem trackQuery_of_findServer (h : findServer src s = some j) :
    trackQuery src ing ts delay s = sampleEntry j ing ts delay s := by rw [trackQuery, h]

end

/-! ### A query of a source that no entry holds (R93) -/

theorem not_admitted_iff (src : Address) (s : State) :
    (src = 0 ∨ src.getLsbD 40 = true ∨ s.dtr.settings.autoLearn = false ∨ (∀ e ∈ s.dtr.servers, e ≠ none)) ↔
      ¬(admissible src && s.dtr.settings.autoLearn) = true ∨ firstEmpty s = none := by
  have hfull : firstEmpty s = none ↔ ∀ e ∈ s.dtr.servers, e ≠ none := by
    simp [firstEmpty, List.findIdx?_eq_none_iff, Option.isSome_iff_ne_none]
  have hadmissible : admissible src = true ↔ src ≠ 0 ∧ ¬src.getLsbD 40 = true := by
    simp [admissible, isGroup]
  rw [hfull, Bool.and_eq_true, hadmissible, ← Bool.not_eq_true]
  tauto

theorem trackQuery_untracked (src : Address) (ing : Ingress) (ts : Stamp) (delay : BitVec 32)
    (h : findServer src s = none)
    (hno : ¬(admissible src && s.dtr.settings.autoLearn) = true ∨ firstEmpty s = none) :
    trackQuery src ing ts delay s =
      { s with dtr := { s.dtr with ctr := { s.dtr.ctr with untracked := bump s.dtr.ctr.untracked } } } := by
  rw [trackQuery, h]
  dsimp only
  by_cases hadmit : (admissible src && s.dtr.settings.autoLearn) = true
  · rw [if_pos hadmit, hno.resolve_left (not_not.mpr hadmit)]
    rfl
  · rw [if_neg hadmit]
    rfl

theorem trackQuery_admitted (src : Address) (ing : Ingress) (ts : Stamp) (delay : BitVec 32) {i : Nat}
    (h : findServer src s = none) (hadmit : (admissible src && s.dtr.settings.autoLearn) = true)
    (hempty : firstEmpty s = some i) :
    trackQuery src ing ts delay s = sampleEntry i ing ts delay (admittedState i src s) := by
  rw [trackQuery, h]
  dsimp only
  rw [if_pos hadmit, hempty]
  rfl

theorem firstEmpty_eq_some {i : Nat} (h : s.dtr.servers[i]? = some none)
    (hfirst : ∀ j < i, s.dtr.servers[j]? ≠ some none) : firstEmpty s = some i := by
  obtain ⟨hlt, hnone⟩ := List.getElem?_eq_some_iff.mp h
  refine List.findIdx?_eq_some_iff_getElem.mpr ⟨hlt, by simp [hnone], fun j hj => ?_⟩
  have hsome := hfirst j hj
  rw [List.getElem?_eq_getElem (by omega)] at hsome
  simpa using hsome

/-- The entry that has been admitted is the one found. -/
theorem findServer_admittedState {src : Address} {i : Nat} (h : findServer src s = none)
    (hi : i < s.dtr.servers.length) : findServer src (admittedState i src s) = some i := by
  rw [findServer, admittedState_servers]
  refine List.findIdx?_eq_some_iff_getElem.mpr ⟨by simpa using hi, by simp [holdsAddress, learnedServer],
    fun j hj => ?_⟩
  rw [List.getElem_set_ne (by omega)]
  simpa using findServer_eq_none_iff.mp h _ (List.getElem_mem (by omega))

/-- Settles O35: the steps of a sample are the tables of 5.3 to 5.5, and its outputs keep what they wrote. -/
theorem trackedQuerySampled : Obligations.TrackedQuerySampled := by
  intro src ing ts delay s t
  refine ⟨fun j sv hfind hat => ?_, fun hfind => ?_⟩
  · have htrack : t = sampleEntry j ing ts delay s := trackQuery_of_findServer src ing ts delay hfind
    have hspec := sampleEntry_spec ing ts delay hat
    rw [← htrack] at hspec
    obtain ⟨⟨hservers, hsettings, hctr⟩, hformed, hnoticed, hcondition⟩ := hspec
    rw [sampled, outcomeOf_held] at hservers
    refine ⟨fun i hi => ?_, ?_, hsettings, hctr, hformed, ⟨fun hroom => ?_, ?_, hcondition⟩,
      trackQuery_sameBut ..⟩
    · rw [serverAt, hservers, List.getElem?_set_ne (Ne.symm hi)]
      rfl
    · rw [serverAt, hservers, List.getElem?_set_self (lt_of_serverAt hat)]
      rfl
    · have hnotice : (trackedNotice ing ts delay j sv s).length ≤ 1 := by
        unfold trackedNotice
        split <;> simp
      have hfew (c : Prop) [Decidable c] (r : Record) : (if c then [r] else []).length ≤ 1 := by
        split <;> simp
      refine (hnoticed.held ?_).trans (List.append_assoc ..).symm
      rw [List.length_append]
      exact (Nat.add_le_add_left (Nat.add_le_add hnotice (hfew _ _)) _).trans hroom
    · have hseq := hnoticed.seq
      rw [List.length_append] at hseq
      exact hseq
  · rw [show t = trackQuery src ing ts delay s from rfl]
    split
    · next hno => exact trackQuery_untracked src ing ts delay hfind ((not_admitted_iff src s).mp hno)
    · next hyes =>
      intro i hempty hfirst new notice admitted
      rw [not_admitted_iff, not_or, not_not] at hyes
      have hi := (List.getElem?_eq_some_iff.mp hempty).1
      have hadmitted : admitted = admittedState i src s := rfl
      have hnoticed : Noticed [notice] s admitted := by
        obtain ⟨u, hu⟩ : ∃ u, u = countDtr (fun c => { c with admissions := bump c.admissions })
          (setServer i (some (learnedServer src)) s) := ⟨_, rfl⟩
        have hstored : Noticed [] s u := noticed_nil (by rw [hu]; rfl)
        have hnotice : admitted = serverNotice i (learnedServer src) none (some .probation) .admitted u := by
          rw [hu, hadmitted]
          rfl
        have hsame : notice = { quality := quality u, seq := u.rrg.seq, date := u.rcu.time.stamp
                                body := .server (BitVec.ofNat 8 i) src none (some .probation) .admitted none none } := by
          rw [hu]
          rfl
        rw [hnotice, hsame]
        exact hstored.trans (serverNotice_noticed i (learnedServer src) none (some .probation) .admitted u)
      have hfound := findServer_admittedState hfind hi
      refine ⟨hadmitted ▸ hfound, hadmitted ▸ serverAt_admittedState hi, ?_, hnoticed.seq, fun hroom =>
        hnoticed.held (by simpa using hroom)⟩
      rw [hadmitted, trackQuery_of_findServer src ing ts delay hfound]
      exact trackQuery_admitted src ing ts delay hfind hyes.1 (firstEmpty_eq_some hempty hfirst)

end Sys2Proof.Proofs
end

section
/-! SUPPORT. Storage commands and completions, with their settled statements. -/

namespace Sys2Proof.Proofs

open Sys2Proof Sys2Proof.Machine Sys2Proof.Safety

variable {s w : State} {p : Port} {flow : Flow} {a : Arriving}

/-! ### What the dating of a command reads -/

theorem findExchange_of_key (hd : ExchangesDistinct s) {i : Nat} {x : Exchange}
    (h : s.dte.exchanges[i]? = some (some x)) : findExchange x.key s = some (i, x) := by
  obtain ⟨hlt, hentry⟩ := List.getElem?_eq_some_iff.mp h
  have hidx : s.dte.exchanges.findIdx? (holdsKey x.key) = some i := by
    refine List.findIdx?_eq_some_iff_getElem.mpr ⟨hlt, by simp [hentry, holdsKey], fun j hj => ?_⟩
    rw [holdsKey_unique hd h (by omega) (by omega)]
    exact Bool.false_ne_true
  rw [findExchange, hidx]
  simp [h]

theorem findExchange_of_unheld {key : ExchangeKey} (h : ∀ e ∈ s.dte.exchanges, ∀ x ∈ e, x.key ≠ key) :
    findExchange key s = none := by
  have hidx : s.dte.exchanges.findIdx? (holdsKey key) = none := by
    refine List.findIdx?_eq_none_iff.mpr fun e he => ?_
    cases e with
    | none => rfl
    | some x => simpa [holdsKey] using h _ he x rfl
  rw [findExchange, hidx]

theorem firstFree_eq_some {i : Nat} (h : s.dte.exchanges[i]? = some none)
    (hfirst : ∀ j < i, s.dte.exchanges[j]? ≠ some none) : firstFree s = some i := by
  obtain ⟨hlt, hnone⟩ := List.getElem?_eq_some_iff.mp h
  refine List.findIdx?_eq_some_iff_getElem.mpr ⟨hlt, by simp [hnone], fun j hj => ?_⟩
  have hsome := hfirst j hj
  rw [List.getElem?_eq_getElem (by omega)] at hsome
  simpa using hsome

theorem firstFree_eq_none (h : ∀ e ∈ s.dte.exchanges, e ≠ none) : firstFree s = none := by
  simpa [firstFree, List.findIdx?_eq_none_iff, Option.isSome_iff_ne_none] using h

theorem inScope_congr (hdtr : w.dtr = s.dtr) (hmgu : w.mgu = s.mgu) (src : Address) :
    inScope src w = inScope src s := by
  rw [inScope, inScope, findServer, findServer, hdtr, hmgu]

theorem initiatorDrifting_congr (hdtr : w.dtr = s.dtr) (src : Address) :
    initiatorDrifting src w = initiatorDrifting src s := by
  unfold initiatorDrifting findServer serverAt
  rw [hdtr]

/-! ### The ends of a storage command -/

theorem exec_storageCommandEnd (h : EndsGoodAs .storageCommand p flow a s) :
    exec (.storageCommandEnd p flow) s = .next (finish (takeCommand a (ended p flow a s))) := by
  rw [← endsGood_eq (isFor := fun c => c == .storageCommand) h rfl takeCommand]
  rfl

theorem takeCommand_eq (a : Arriving) (s : State) : takeCommand a s =
    match (datingWalk (storageKey a.settings a.octets) s).2 with
    | none => (datingWalk (storageKey a.settings a.octets) s).1
    | some q =>
      if inScope (sourceAddress a.octets) s then dateCommand a q (datingWalk (storageKey a.settings a.octets) s).1
      else (datingWalk (storageKey a.settings a.octets) s).1 := by
  rw [← inScope_congr (w := (datingWalk (storageKey a.settings a.octets) s).1) (by simp) (by simp)]
  rfl

theorem takeCommand_unshown (h : (datingWalk (storageKey a.settings a.octets) s).2 = none ∨
    inScope (sourceAddress a.octets) s = false) :
    takeCommand a s = (datingWalk (storageKey a.settings a.octets) s).1 := by
  rw [takeCommand_eq]
  split
  · rfl
  · next q hq =>
    rw [if_neg]
    rw [h.resolve_left (by simp [hq])]
    exact Bool.false_ne_true

theorem takeCommand_shown {q : BitVec 3} (h : (datingWalk (storageKey a.settings a.octets) s).2 = some q)
    (hscope : inScope (sourceAddress a.octets) s = true) :
    takeCommand a s = dateCommand a q (datingWalk (storageKey a.settings a.octets) s).1 := by
  rw [takeCommand_eq, h]
  exact if_pos hscope

/-! ### A command shown to DTE (R136 to R140) -/

theorem bne_eq_decide {x y : Epoch} : (x != y) = decide (x ≠ y) := by
  rw [bne, Bool.beq_eq_decide_eq, decide_not]

/-- A record of an exchange finds room while the ring is below its reserve. -/
theorem offer_exchange_held {r : Record} (h : s.rrg.count < 2048 - s.rrg.reserve) :
    (offer r s).rrg.held = s.rrg.held ++ [{ r with seq := s.rrg.seq }] := by
  refine offer_held ?_
  unfold classLimit
  split
  · exact h
  · exact h.trans_le (Nat.sub_le ..)

section
variable {q : BitVec 3}

theorem dateCommand_shed (h : w.rrg.pressure = true ∧ (profileOf q w).sheddable = true) :
    dateCommand a q w = countProfile q (fun c => { c with shed := bump c.shed }) w :=
  if_pos (by simp [h])

theorem dateCommand_reused (h : ¬(w.rrg.pressure && (profileOf q w).sheddable) = true) {i : Nat} {x : Exchange}
    (hfound : findExchange (commandKey a) w = some (i, x)) : ∃ u, dateCommand a q w =
      offer (unansweredRecord x .reused u) u ∧
      u = countProfile q (fun c => { c with dated := bump c.dated })
        (countProfile x.profile (fun c => { c with reused := bump c.reused })
          (setExchange i (some (openedExchange a q w)) w)) := by
  refine ⟨_, ?_, rfl⟩
  rw [dateCommand, if_neg h, hfound]

theorem dateCommand_opened (h : ¬(w.rrg.pressure && (profileOf q w).sheddable) = true) {i : Nat}
    (hnew : findExchange (commandKey a) w = none) (hfree : firstFree w = some i) : dateCommand a q w =
      countProfile q (fun c => { c with dated := bump c.dated })
        (setExchange i (some (openedExchange a q w)) w) := by
  rw [dateCommand, if_neg h, hnew]
  dsimp only
  rw [hfree]

theorem dateCommand_undated (h : ¬(w.rrg.pressure && (profileOf q w).sheddable) = true)
    (hnew : findExchange (commandKey a) w = none) (hfull : firstFree w = none) : dateCommand a q w =
      countProfile q (fun c => { c with undated := bump c.undated }) w := by
  rw [dateCommand, if_neg h, hnew]
  dsimp only
  rw [hfull]

end

/-- Settles O39: the outcomes are the branches of `dateCommand`. -/
theorem storageCommandDated : Obligations.StorageCommandDated := by
  intro p flow s a hends hdue walk src key
  obtain ⟨w, hw⟩ : ∃ w, w = walk.1 := ⟨_, rfl⟩
  have hkept : SameBut [.fcl, .egm] s w := by
    rw [hw]
    simp [SameBut, walk]
  have hquiet : w.wru.testDue = false := by rw [hw]; simp [walk, hdue]
  have hscope : inScope src (ended p flow a s) = inScope src s := inScope_congr (by simp) (by simp) src
  refine ⟨fun hout => ⟨_, exec_storageCommandEnd hends, ?_⟩, fun q hq hin => ?_⟩
  · rw [takeCommand_unshown (hout.imp_right fun h => hscope.trans h)]
    change (finish walk.1).fcl.filters = walk.1.fcl.filters ∧ SameBut [.fcl, .egm] s (finish walk.1)
    rw [← hw, finish_of_no_test hquiet]
    exact ⟨rfl, hkept⟩
  · intro profile new dated shed undated
    have hexec := exec_storageCommandEnd hends
    rw [takeCommand_shown hq (hscope.trans hin)] at hexec
    change _ = Host.Outcome.next (finish (dateCommand a q walk.1)) at hexec
    rw [← hw] at hexec
    have hdte : w.dte = s.dte := by rw [hw]; simp [walk]
    have hdtr : w.dtr = s.dtr := by rw [hw]; simp [walk]
    have hrrg : w.rrg = s.rrg := by rw [hw]; simp [walk]
    have hrcu : w.rcu = s.rcu := by rw [hw]; simp [walk]
    have hprofile : profileOf q w = profile := by rw [profileOf, hdte]
    have hnew : openedExchange a q w = new := by
      rw [openedExchange, hprofile, initiatorDrifting_congr hdtr]
      rfl
    have hshown (hshow : s.rrg.pressure = false ∨ profile.sheddable = false) :
        ¬(w.rrg.pressure && (profileOf q w).sheddable) = true := by
      rw [hprofile, hrrg, Bool.and_eq_true]
      rintro ⟨hpressure, hsheddable⟩
      rcases hshow with hno | hno
      · exact absurd hpressure (by simp [hno])
      · exact absurd hsheddable (by simp [hno])
    refine ⟨fun hshed => ?_, fun hshow => ⟨fun i x hentry hkey hdistinct hroom => ?_, fun hunheld => ⟨fun i hfree
      hfirst => ?_, fun hfull => ?_⟩⟩⟩
    · rw [dateCommand_shed (by rw [hprofile, hrrg]; exact hshed), finish_of_no_test (by exact hquiet)] at hexec
      refine ⟨_, hexec, ?_, ?_⟩
      · rw [countProfile_dte, hdte]
      · exact sameBut_trans (sameBut_mono hkept (by simp)) (by simp [SameBut])
    · rw [← hdte] at hentry
      have hfound : findExchange (commandKey a) w = some (i, x) := by
        rw [show commandKey a = x.key from hkey.symm]
        exact findExchange_of_key (by rw [ExchangesDistinct, exchangeKeys, hdte]; exact hdistinct) hentry
      obtain ⟨u, htaken, hu⟩ := dateCommand_reused (hshown hshow) hfound
      rw [htaken] at hexec
      have hurrg : u.rrg = s.rrg := by rw [hu]; exact hrrg
      have hudte : u.dte = { s.dte with
          exchanges := s.dte.exchanges.set i (some new)
          profiles := dated (s.dte.profiles.modify x.profile.toNat fun c => { c with reused := bump c.reused }) } := by
        simp [hu, hdte, hnew, dated]
      have hurcu : u.rcu = s.rcu := by simp [hu, hrcu]
      refine ⟨_, hexec, ?_, ?_, ?_, ?_, ?_⟩
      · simp [hudte]
      · simp [hudte]
      · simp [hudte]
      · have hheld := offer_exchange_held (s := u) (r := unansweredRecord x .reused u)
          (by rw [hurrg]; exact hroom)
        rw [(finish_frame _).2.2.2.2.2.2.1, hheld, hurrg, unansweredRecord, bne_eq_decide, hurcu]
      · have hafter : SameBut [.fcl, .dte, .wru, .rrg, .rpe, .egm] w
            (finish (offer (unansweredRecord x .reused u) u)) := by simp [SameBut, hu]
        exact sameBut_trans (sameBut_mono hkept (by simp)) hafter
    · rw [dateCommand_opened (hshown hshow) (findExchange_of_unheld (by rw [hdte]; exact hunheld))
        (firstFree_eq_some (by rw [hdte]; exact hfree) (by rw [hdte]; exact hfirst)),
        finish_of_no_test (by exact hquiet)] at hexec
      refine ⟨_, hexec, ?_, ?_⟩
      · simp [hdte, hnew, dated]
      · exact sameBut_trans (sameBut_mono hkept (by simp)) (by simp [SameBut])
    · rw [dateCommand_undated (hshown hshow) (findExchange_of_unheld (by rw [hdte]; exact hunheld))
        (firstFree_eq_none (by rw [hdte]; exact hfull)), finish_of_no_test (by exact hquiet)] at hexec
      refine ⟨_, hexec, ?_, ?_⟩
      · rw [countProfile_dte, hdte]
      · exact sameBut_trans (sameBut_mono hkept (by simp)) (by simp [SameBut])

/-! ### The end of a storage completion -/

theorem exec_storageCompletionEnd (h : EndsGoodAs .storageCompletion p flow a s) :
    exec (.storageCompletionEnd p flow) s = .next (finish (takeCompletion a (ended p flow a s))) := by
  rw [← endsGood_eq (isFor := fun c => c == .storageCompletion) h rfl takeCompletion]
  rfl

/-- Settles O40: the record is that of `completedRecord`, offered below the reserve. -/
theorem completionClosesExchange : Obligations.CompletionClosesExchange := by
  intro p flow s a i x hends hentry hkey hdistinct hroom diff
  obtain ⟨v, hv⟩ : ∃ v, v = ended p flow a s := ⟨_, rfl⟩
  have hdte : v.dte = s.dte := by rw [hv]; simp
  have hrrg : v.rrg = s.rrg := by rw [hv]; simp
  have hfound : findExchange (completionKey a) v = some (i, x) := by
    rw [← hkey]
    exact findExchange_of_key (by rw [ExchangesDistinct, exchangeKeys, hdte]; exact hdistinct) (by rw [hdte]; exact hentry)
  obtain ⟨u, hu⟩ : ∃ u, u = countProfile x.profile (fun c => { c with completed := bump c.completed })
      (setExchange i none v) := ⟨_, rfl⟩
  have htaken : takeCompletion a v =
      offer (completedRecord x a.ingress (storageStatus a.settings a.octets)) u := by
    rw [takeCompletion, hfound, hu]
  have hurrg : u.rrg = s.rrg := by rw [hu]; exact hrrg
  refine ⟨_, exec_storageCompletionEnd hends, ?_⟩
  rw [← hv, htaken]
  refine ⟨?_, ?_, ?_, ?_, ?_⟩
  · simp [hu, hdte]
  · simp [hu, hdte]
  · have hheld := offer_exchange_held (s := u) (r := completedRecord x a.ingress
      (storageStatus a.settings a.octets)) (by rw [hurrg]; exact hroom)
    rw [(finish_frame _).2.2.2.2.2.2.1, hheld, hurrg]
    rw [completedRecord, bne_eq_decide]
    rfl
  · simp [hu, hv, ended_filters]
  · simp [SameBut, hu, hv]

end Sys2Proof.Proofs
end

section
/-! SUPPORT. The loss of a link, with its settled statement. -/

namespace Sys2Proof.Proofs

open Sys2Proof Sys2Proof.Machine Sys2Proof.Safety

variable {s t u : State} {p : Port}

/-! ### What origination leaves of a port -/

/-- What the drop and the queuing of originated frames leave of a port: all that holds pass-through frames,
and, while its link is DOWN, its queue and its egress too. -/
structure PortKept (e e' : Egm) : Prop where
  link : e'.link = e.link
  buffer : e'.buffer = e.buffer
  bufferFull : e'.ctr.bufferFull = e.ctr.bufferFull
  linkDrops : e'.ctr.linkDrops = e.ctr.linkDrops
  down : e.link = false → e'.queue = e.queue ∧ e'.egress = e.egress

/-- Both ports are kept so. -/
def PortsKept (s t : State) : Prop := ∀ q, PortKept (s.port q) (t.port q)

theorem PortsKept.of_egm (h : t.egm = s.egm) : PortsKept s t := fun q => by
  have hport : t.port q = s.port q := by rw [State.port, State.port, h]
  rw [hport]
  exact ⟨rfl, rfl, rfl, rfl, fun _ => ⟨rfl, rfl⟩⟩

theorem PortsKept.trans (h : PortsKept s t) (h' : PortsKept t u) : PortsKept s u := fun q =>
  { link := (h' q).link.trans (h q).link
    buffer := (h' q).buffer.trans (h q).buffer
    bufferFull := (h' q).bufferFull.trans (h q).bufferFull
    linkDrops := (h' q).linkDrops.trans (h q).linkDrops
    down := fun hdown => by
      obtain ⟨hqueue, hegress⟩ := (h q).down hdown
      obtain ⟨hqueue', hegress'⟩ := (h' q).down ((h q).link.trans hdown)
      exact ⟨hqueue'.trans hqueue, hegress'.trans hegress⟩ }

theorem PortsKept.of_start (h : PortsKept t u) (hs : t.egm = s.egm) : PortsKept s u := (PortsKept.of_egm hs).trans h

theorem portsKept_setPort {e : Egm} (h : PortKept (s.port p) e) : PortsKept s (s.setPort p e) := fun q => by
  by_cases hq : q = p
  · rw [hq, setPort_port_same]
    exact h
  · rw [setPort_port_ne _ _ _ _ hq]
    exact ⟨rfl, rfl, rfl, rfl, fun _ => ⟨rfl, rfl⟩⟩

theorem portsKept_pushEntry (up : (s.port p).link = true) (src : Source) : PortsKept s (pushEntry p src s) :=
  portsKept_setPort ⟨rfl, rfl, rfl, rfl, fun hdown => absurd up (by simp [hdown])⟩

theorem portsKept_countDrops (p : Port) (n : Counter → Counter) (s : State) :
    PortsKept s (s.countEgress p fun c => { c with originatedDrops := n c.originatedDrops }) :=
  portsKept_setPort ⟨rfl, rfl, rfl, rfl, fun _ => ⟨rfl, rfl⟩⟩

theorem portsKept_dueCheck (s : State) : PortsKept s (dueCheck s) := by
  unfold dueCheck
  split
  · next can =>
    obtain ⟨_, hup, _⟩ := (reportCanBuild_iff s).mp can
    exact (portsKept_pushEntry (by exact hup) .report).of_start rfl
  · exact .of_egm rfl

theorem portsKept_alertTest (s : State) : PortsKept s (alertTest s) := by
  unfold alertTest
  split
  · next can =>
    obtain ⟨_, _, hup, _⟩ := (alertCanBuild_iff s).mp can
    have hfirst : PortsKept s (pushEntry s.mgu.station.collectorPort .alert (alertFormed s)) :=
      (portsKept_pushEntry (by exact hup) .alert).of_start rfl
    rw [buildAlert_eq]
    split
    · next hseparate =>
      obtain ⟨_, _, hmanager⟩ := (managerCopy_iff s).1.mp hseparate
      exact hfirst.trans (portsKept_pushEntry ((hfirst _).link.trans hmanager) .alert)
    · exact hfirst
  · exact .of_egm rfl

theorem portsKept_finish (s : State) : PortsKept s (finish s) := by
  unfold finish
  split
  · exact (portsKept_alertTest _).of_start rfl
  · exact .of_egm rfl

theorem portsKept_indifferent (s : State) : Indifferent (PortsKept s) where
  clock _ _ h := h
  dse _ _ _ h := h
  dtr _ _ h := h
  offer r t h := by
    rcases offer_cases r t with ⟨_, ho⟩ | ⟨_, ho⟩
    · rw [ho]
      exact h.trans ((portsKept_dueCheck _).of_start rfl)
    · rw [ho]
      exact h.trans (.of_egm (by simp))
  edge b e select t h := h.trans (.of_egm (by simp))

/-! ### The owners are told of a drop (R196) -/

theorem PortsKept.latch (h : PortsKept s t) (b : Nat) : PortsKept s (Machine.latch b t) :=
  h.trans (.of_egm (by simp))

theorem portsKept_reachFreerun (s : State) : PortsKept s (reachFreerun s) := by
  have h := portsKept_indifferent s
  have hstate := h.setDState .freerun { s with dse := { s.dse with growthTimer := none } } (.of_egm rfl)
  unfold reachFreerun rackNotice
  exact h.offer _ _ (hstate.latch 50)

theorem portsKept_enterHoldover (s : State) : PortsKept s (enterHoldover s) := by
  have hbegun : PortsKept s (beginHoldover s) := (portsKept_indifferent s).beginHoldover s (.of_egm rfl)
  rw [enterHoldover_eq, testHoldoverLimit]
  split
  · exact hbegun.trans (portsKept_reachFreerun _)
  · exact hbegun

theorem portsKept_miss (s : State) : PortsKept s (miss s) := by
  unfold miss
  dsimp only
  split
  · exact (portsKept_enterHoldover _).of_start rfl
  · exact .of_egm rfl

theorem portsKept_loseOutstanding (q : Seq) (s : State) : PortsKept s (loseOutstanding q s) := by
  unfold loseOutstanding
  split
  · exact .of_egm rfl
  · split
    · exact (portsKept_miss _).of_start rfl
    · exact .of_egm rfl

theorem portsKept_queueProbe (f : ProbeFrame) (s : State) : PortsKept s (queueProbe f s) := by
  unfold queueProbe
  split
  · next up => exact (portsKept_pushEntry (by exact up) .probe).of_start rfl
  · exact (portsKept_countDrops f.port bump s).trans ((portsKept_loseOutstanding _ _).of_start rfl)

theorem portsKept_releaseHeld (s : State) : PortsKept s (releaseHeld s) := by
  unfold releaseHeld
  split
  · exact .of_egm rfl
  · exact (portsKept_queueProbe _ _).of_start rfl

theorem portsKept_probeDropped (s : State) : PortsKept s (probeDropped s) := by
  unfold probeDropped
  split
  · exact .of_egm rfl
  · refine PortsKept.trans ?_ (portsKept_releaseHeld _)
    exact (portsKept_loseOutstanding _ _).of_start rfl

theorem portsKept_ownerDropped (p : Port) (src : Source) (s : State) : PortsKept s (ownerDropped p src s) := by
  cases src with
  | slot n => exact .of_egm rfl
  | probe => exact portsKept_probeDropped s
  | response => exact .of_egm rfl
  | alert => exact .of_egm (by simp [ownerDropped])
  | report => exact .of_egm (by simp [ownerDropped])

theorem portsKept_dropEntries (p : Port) (l : List QueueEntry) (s : State) :
    PortsKept s (l.foldl (dropEntry p) s) := by
  induction l generalizing s with
  | nil => exact .of_egm rfl
  | cons e l ih =>
    have hcounted : PortsKept s (dropEntry p s e) :=
      (portsKept_countDrops p (fun c => addCount c (entryFrames p e.source s)) s).trans
        (portsKept_ownerDropped _ _ _)
    exact hcounted.trans (ih _)

/-! ### What else the owners leave -/

theorem enterHoldover_time (s : State) : (enterHoldover s).rcu.time = s.rcu.time := by
  rw [enterHoldover_eq, testHoldoverLimit]
  split <;> simp [reachFreerun, beginHoldover, withdrawPhase, recomputeRate]

theorem miss_time (s : State) : (miss s).rcu.time = s.rcu.time := by
  unfold miss
  dsimp only
  split
  · exact enterHoldover_time _
  · rfl

theorem loseOutstanding_time (q : Seq) (s : State) : (loseOutstanding q s).rcu.time = s.rcu.time := by
  unfold loseOutstanding
  split
  · rfl
  · split
    · exact miss_time _
    · rfl

theorem releaseHeld_time (s : State) : (releaseHeld s).rcu.time = s.rcu.time := by
  unfold releaseHeld queueProbe
  split
  · rfl
  · split
    · rfl
    · exact loseOutstanding_time ..

theorem probeDropped_time (s : State) : (probeDropped s).rcu.time = s.rcu.time := by
  unfold probeDropped
  split
  · rfl
  · exact (releaseHeld_time _).trans (loseOutstanding_time ..)

theorem dropEntry_time (p : Port) (s : State) (e : QueueEntry) : (dropEntry p s e).rcu.time = s.rcu.time := by
  unfold dropEntry ownerDropped
  cases e.source with
  | probe => exact probeDropped_time _
  | _ => simp

theorem dropEntry_fcl (p : Port) (s : State) (e : QueueEntry) : (dropEntry p s e).fcl = s.fcl := by
  unfold dropEntry ownerDropped
  cases e.source <;> simp

theorem dropEntry_kept (p : Port) (s : State) (e : QueueEntry) :
    SameBut [.rcu, .dse, .fcl, .anu, .wru, .rrg, .rpe, .egm, .mgu] s (dropEntry p s e) := by
  unfold dropEntry ownerDropped
  cases e.source <;> simp [SameBut]

/-! ### The answers of the port (R84) -/

/-- A slot whose answer has been dropped. -/
def droppedSlot (sl : Slot) : Slot := { sl with answer := none, dropped := bump sl.dropped }

theorem dropEntry_slots (p : Port) (s : State) (e : QueueEntry) : (dropEntry p s e).anu.slots =
    match e.source with
    | .slot n => s.anu.slots.modify n droppedSlot
    | _ => s.anu.slots := by
  unfold dropEntry ownerDropped
  cases e.source with
  | slot n => rfl
  | _ => simp

theorem dropEntry_slot (p : Port) (s : State) (e : QueueEntry) {n : Nat} (hn : n < s.anu.slots.length) :
    (dropEntry p s e).anu.slots.length = s.anu.slots.length ∧ (dropEntry p s e).anu.slots.getD n {} =
      if e.source = .slot n then droppedSlot (s.anu.slots.getD n {}) else s.anu.slots.getD n {} := by
  rw [dropEntry_slots]
  cases hsource : e.source with
  | slot m =>
    dsimp only
    by_cases hm : m = n
    · subst hm
      rw [if_pos rfl, getD_modify_same _ _ hn]
      exact ⟨List.length_modify .., rfl⟩
    · rw [if_neg (by simpa using hm), List.getD_eq_getElem?_getD, List.getElem?_modify_ne _ _ hm]
      exact ⟨List.length_modify .., (List.getD_eq_getElem?_getD ..).symm⟩
  | _ => exact ⟨rfl, rfl⟩

/-- An answer whose entry stands once among the entries dropped is dropped once. -/
theorem dropEntries_slot (p : Port) {n : Nat} (l : List QueueEntry) (s : State) (hn : n < s.anu.slots.length)
    (hcount : (l.map QueueEntry.source).count (.slot n) ≤ 1) :
    (l.foldl (dropEntry p) s).anu.slots.getD n {} =
      if (l.map QueueEntry.source).count (.slot n) = 1 then droppedSlot (s.anu.slots.getD n {})
      else s.anu.slots.getD n {} := by
  induction l generalizing s with
  | nil => rfl
  | cons e l ih =>
    obtain ⟨hlength, hslot⟩ := dropEntry_slot p s e hn
    rw [List.map_cons, List.count_cons] at hcount ⊢
    rw [List.foldl_cons, ih _ (by omega) (by omega), hslot]
    by_cases he : e.source = .slot n
    · have hrest : (l.map QueueEntry.source).count (.slot n) = 0 := by
        rw [if_pos (by simp [he])] at hcount
        omega
      simp [he, hrest]
    · simp [he]

/-! ### The loss of a link (R196, R197) -/

/-- The state in which the link is lost and the frames that were arriving have ended, the owners of the
dropped entries not told yet. -/
def linkLost (p : Port) (s : State) : State :=
  let v := endsBad p .stopped s
  let w := v.setPort p (v.port p).lose
  w.setArriving p.other ((w.arriving p.other).map Arriving.loseDeparture)

theorem loseLink_eq (p : Port) (s : State) :
    loseLink p s = ((endsBad p .stopped s).port p).queue.foldl (dropEntry p) (linkLost p s) := rfl

/-- The ports, the arrivals and the ingress counters after the bad end of the frame that was arriving. -/
theorem endsBad_stopped (p : Port) (s : State) :
    (endsBad p .stopped s).port p = s.port p ∧
    (endsBad p .stopped s).port p.other = (match s.arriving p with
      | none => s.port p.other
      | some a => forwardedBad a .stopped (s.port p.other)) ∧
    (endsBad p .stopped s).arriving p = none ∧
    (endsBad p .stopped s).arriving p.other = s.arriving p.other ∧
    (endsBad p .stopped s).fcl.ctr.get p = (match s.arriving p with
      | none => s.fcl.ctr.get p
      | some a => countedBad a (s.fcl.ctr.get p)) := by
  cases ha : s.arriving p with
  | none =>
    have heq : endsBad p .stopped s = s := by rw [endsBad, ha]
    rw [heq]
    exact ⟨rfl, rfl, ha, rfl, rfl⟩
  | some a =>
    have hended := endsBad_endedBad (how := .stopped) ha nofun
    exact ⟨hended.kept, hended.forwarded, hended.gone, hended.other, hended.counted⟩

theorem loseDeparture_eq (a : Arriving) : a.loseDeparture =
    if a.course = .passed then { a with course := .refused }
    else if a.course = .undecided ∧ a.admission = .room then { a with admission := .down }
    else a := by
  obtain ⟨_, _, _, admission, course, _, _, _⟩ := a
  cases course with
  | undecided => cases admission <;> rfl
  | passed => rfl
  | forPart => rfl
  | refused => rfl

theorem forwardedBad_link (a : Arriving) (how : Arrival) (e : Egm) : (forwardedBad a how e).link = e.link := by
  unfold forwardedBad
  dsimp only
  repeat' split
  all_goals rfl

/-- The lost link, its arrivals and its answers, before the alert build test. -/
theorem loseLink_port (p : Port) (s : State) :
    PortsKept (linkLost p s) (finish (loseLink p s)) :=
  (portsKept_dropEntries p _ _).trans (portsKept_finish _)

/-- Settles O52: the port is emptied before the owners are told, and what they do leaves it so. -/
theorem linkLossEmptiesPort : Obligations.LinkLossEmptiesPort := by
  intro p flow s hqueues hup s1 other left
  have hlink : (s1.port p).link = true := by simpa [s1] using hup
  have hexec : exec (.linkLoss p flow) s = .next (finish (loseLink p s1)) := if_pos hlink
  obtain ⟨hkept, hforwarded, hgone, harriving, hcounted⟩ := endsBad_stopped p s1
  obtain ⟨hplink, hpbuffer, _, hpdrops, hpdown⟩ := loseLink_port p s1 p
  obtain ⟨holink, hobuffer, hofull, hodrops, _⟩ := loseLink_port p s1 p.other
  have hport : (linkLost p s1).port p = (s1.port p).lose := by
    rw [linkLost, setArriving_port, setPort_port_same, hkept]
  have hother : (linkLost p s1).port p.other = left := by
    rw [linkLost, setArriving_port, setPort_port_other]
    exact hforwarded
  rw [hport] at hplink hpbuffer hpdrops hpdown
  rw [hother] at holink hobuffer hofull hodrops
  obtain ⟨hpqueue, hpegress⟩ := hpdown rfl
  have hfcl : (finish (loseLink p s1)).fcl = (linkLost p s1).fcl := by
    rw [loseLink_eq, (finish_frame _).2.2.1, foldl_keeps State.fcl (dropEntry_fcl p)]
  refine ⟨_, hexec, hplink, hpbuffer, hpqueue, hpegress, ?_, hpdrops, fun n => ?_, hobuffer, hofull, hodrops,
    ?_, ?_, ?_, ?_, ?_⟩
  · rw [holink]
    have hsame : (s1.port p.other).link = (s.port p.other).link := by simp [s1]
    rw [← hsame]
    change (match s1.arriving p with
      | none => s1.port p.other
      | some a => forwardedBad a .stopped (s1.port p.other)).link = _
    split
    · rfl
    · exact forwardedBad_link ..
  · have hanu : (linkLost p s1).anu = s.anu := by simp [linkLost, s1]
    have hagrees := agrees_of_queuesConsistent hqueues p
    have hn : n.val < (linkLost p s1).anu.slots.length := by
      rw [hanu, hagrees.slots]
      exact n.isLt
    have hcount : (((endsBad p .stopped s1).port p).queue.map QueueEntry.source).count (.slot n.val) =
        if slotPort s n.val = some p then 1 else 0 := by
      have hclaimed := hagrees.claimed (.slot n.val) p
      rw [claims_nil, due_slot, sourcesOf] at hclaimed
      rw [hkept, applyFlow_queue]
      exact hclaimed
    rw [loseLink_eq, (finish_frame _).2.2.2.1, dropEntries_slot p _ _ hn (by rw [hcount]; split <;> omega), hcount,
      hanu]
    by_cases hslot : slotPort s n.val = some p
    · rw [if_pos hslot, if_pos hslot, if_pos rfl]
      rfl
    · rw [if_neg hslot, if_neg hslot, if_neg Nat.zero_ne_one]
  · rw [hfcl, ← applyFlow_ctr flow s]
    exact hcounted
  · rw [State.arriving, hfcl]
    exact (perPort_get_other_set ..).trans hgone
  · rw [loseLink_eq, (finish_frame _).1, foldl_keeps (fun u => u.rcu.time) (dropEntry_time p)]
    simp [linkLost, s1]
  · have hcourse : (fun a : Arriving => if a.course = .passed then { a with course := .refused }
        else if a.course = .undecided ∧ a.admission = .room then { a with admission := .down }
        else a) = Arriving.loseDeparture := funext fun a => (loseDeparture_eq a).symm
    rw [State.arriving, hfcl, hcourse, ← harriving]
    exact perPort_get_set_same ..
  · have hlost : SameBut [.rcu, .dse, .fcl, .anu, .wru, .rrg, .rpe, .egm, .mgu] s (linkLost p s1) := by
      simp [SameBut, linkLost, s1]
    exact sameBut_trans hlost (sameBut_trans (foldl_sameBut (dropEntry_kept p) _ _)
      (sameBut_mono (finish_sameBut _) (by simp)))

end Sys2Proof.Proofs
end

section
/-! SUPPORT. A management frame, with its settled statement. -/

namespace Sys2Proof.Proofs

open Sys2Proof Sys2Proof.Machine Sys2Proof.Safety

/-! ### A request leaves the manager port -/

/-- What a request came to has left the manager port. -/
abbrev ManagerPortKept (s : State) (d : Done) : Prop := d.state.mgu.managerPort = s.mgu.managerPort

section
variable {s : State} {v : Nat}

theorem stored_managerPort {t : State} (h : t.mgu.managerPort = s.mgu.managerPort) (clamped : Bool) :
    ManagerPortKept s (stored clamped t) := h

theorem clampedWrite_managerPort {put : Nat → State} (lo hi v : Nat)
    (h : ∀ n, (put n).mgu.managerPort = s.mgu.managerPort) : ManagerPortKept s (clampedWrite lo hi v put) := h _

theorem flagWrite_managerPort {put : Bool → State} (h : ∀ b, (put b).mgu.managerPort = s.mgu.managerPort) :
    ManagerPortKept s (flagWrite v s put) := by
  unfold flagWrite
  split
  · exact h _
  · exact h _
  · rfl

theorem portWrite_managerPort {put : Port → State} (h : ∀ p, (put p).mgu.managerPort = s.mgu.managerPort) :
    ManagerPortKept s (portWrite v s put) := by
  unfold portWrite
  split
  · exact h _
  · exact h _
  · rfl

theorem writeSelect_managerPort {put : EdgeSelect → State}
    (h : ∀ e, (put e).mgu.managerPort = s.mgu.managerPort) : ManagerPortKept s (writeSelect v s put) := by
  unfold writeSelect
  split
  · rfl
  · exact h _

end

section
variable (i : Nat) (v : List Byte) (s : State)

theorem writeClock_managerPort : ManagerPortKept s (writeClock i v s) := by
  unfold writeClock writeF
  split
  case h_1 => split <;> rfl
  case h_6 => exact clampedWrite_managerPort _ _ _ fun _ => rfl
  all_goals rfl

theorem writeServoSetting_managerPort : ManagerPortKept s (writeServoSetting i v s) := by
  unfold writeServoSetting
  split
  case h_8 => exact flagWrite_managerPort fun _ => rfl
  all_goals rfl

theorem writeFilter_managerPort : ManagerPortKept s (writeFilter i v s) := by
  unfold writeFilter
  split <;> rfl

theorem writeServer_managerPort : ManagerPortKept s (writeServer i v s) := by
  unfold writeServer
  split
  · exact stored_managerPort (by simp) _
  dsimp only
  split
  · rfl
  · split
    · rfl
    · exact stored_managerPort (by simp) _

theorem setSilenceTimeout_mgu (n : Nat) : (setSilenceTimeout n s).mgu = s.mgu := by
  unfold setSilenceTimeout
  dsimp only
  split
  · rw [(recomputeMajority_frame _).2.2.2.2.2.1, foldl_keeps State.mgu fun u i => by simp]
    rfl
  · rfl

theorem setEvictionTime_mgu (n : Nat) : (setEvictionTime n s).mgu = s.mgu := by
  unfold setEvictionTime
  dsimp only
  split
  · rw [(recomputeMajority_frame _).2.2.2.2.2.1, foldl_keeps State.mgu fun u i => by simp]
    rfl
  · rfl

theorem writeDriftSetting_managerPort : ManagerPortKept s (writeDriftSetting i v s) := by
  unfold writeDriftSetting
  split
  case h_1 => exact flagWrite_managerPort fun _ => rfl
  case h_8 => exact clampedWrite_managerPort _ _ _ fun n => by rw [setSilenceTimeout_mgu]
  case h_9 => exact clampedWrite_managerPort _ _ _ fun n => by rw [setEvictionTime_mgu]
  case h_10 => exact flagWrite_managerPort fun b => by simp
  case h_11 => exact clampedWrite_managerPort _ _ _ fun n => by simp
  all_goals rfl

theorem writeWarning_managerPort : ManagerPortKept s (writeWarning i v s) := by
  unfold writeWarning
  split
  case h_3 => exact writeSelect_managerPort fun _ => rfl
  case h_4 => exact writeSelect_managerPort fun _ => rfl
  case h_6 => exact flagWrite_managerPort fun _ => rfl
  all_goals rfl

theorem writeProfile_managerPort : ManagerPortKept s (writeProfile i v s) := by
  unfold writeProfile
  split
  · exact flagWrite_managerPort fun _ => rfl
  · rfl

theorem writeRing_managerPort : ManagerPortKept s (writeRing i v s) := by
  unfold writeRing writeReserve writeHighMark writeLowMark
  split
  · split <;> rfl
  · exact stored_managerPort (by simp) _
  · exact clampedWrite_managerPort _ _ _ fun _ => by simp
  · rfl

theorem writeReport_managerPort : ManagerPortKept s (writeReport i v s) := by
  unfold writeReport
  split
  · exact clampedWrite_managerPort _ _ _ fun _ => by simp
  · dsimp only
    split <;> rfl
  · rfl

theorem writePort_managerPort (p : Port) : ManagerPortKept s (writePort p i v s) := by
  unfold writePort
  split <;> rfl

theorem writeStation_managerPort : ManagerPortKept s (writeStation i v s) := by
  unfold writeStation writeOwn
  dsimp only
  split
  case h_1 => split <;> rfl
  case h_6 => exact stored_managerPort (by simp) _
  case h_7 => exact portWrite_managerPort fun _ => by simp
  case h_9 => exact portWrite_managerPort fun _ => rfl
  all_goals rfl

theorem applyWrite_managerPort (t : Nat) : ManagerPortKept s (applyWrite t i v s) := by
  unfold applyWrite
  split
  · exact writeClock_managerPort i v s
  · exact writeServoSetting_managerPort i v s
  · exact writeFilter_managerPort i v s
  · rfl
  · rfl
  · exact writeServer_managerPort i v s
  · exact writeDriftSetting_managerPort i v s
  · exact writeWarning_managerPort i v s
  · exact writeProfile_managerPort i v s
  · exact writeRing_managerPort i v s
  · exact writeReport_managerPort i v s
  · exact writePort_managerPort _ v s _
  · exact writeStation_managerPort i v s
  · rfl

theorem zeroCounter_managerPort (t : Nat) : (zeroCounter t i s).mgu.managerPort = s.mgu.managerPort := by
  unfold zeroCounter zeroProfileCounter zeroPortCounter
  split
  case h_7 => split <;> rfl
  case h_10 => split <;> rfl
  all_goals rfl

theorem swapCounter_managerPort (t : Nat) (old : List Byte) :
    ManagerPortKept s (swapCounter t i v old s) := by
  unfold swapCounter
  split
  · exact zeroCounter_managerPort i s t
  · rfl

theorem applySwap_managerPort (t : Nat) (old : List Byte) : ManagerPortKept s (applySwap t i v old s) := by
  unfold applySwap
  split
  · split
    · exact flagWrite_managerPort fun _ => rfl
    · exact swapCounter_managerPort ..
  · unfold swapWarning
    split
    · rfl
    · exact flagWrite_managerPort fun _ => rfl
    · exact swapCounter_managerPort ..
  · exact swapCounter_managerPort ..

end

theorem resetServer_foldl_mgu (l : List Nat) (s : State) : (l.foldl resetServer s).mgu = s.mgu :=
  foldl_keeps State.mgu (fun u i => by simp) l s

theorem applyDo_managerPort (ing : Ingress) (code : Nat) (args : List Byte) (s : State) :
    ManagerPortKept s (applyDo ing code args s) := by
  unfold applyDo
  split
  case h_1 =>
    unfold doSetTime
    dsimp only
    split
    · rfl
    split
    · rfl
    split
    · rfl
    split
    · exact stored_managerPort (by simp) _
    · rfl
  case h_2 =>
    unfold doStep
    dsimp only
    split
    · exact stored_managerPort (by simp) _
    · rfl
  case h_3 =>
    unfold doStart
    split
    · rfl
    · exact stored_managerPort (by simp) _
  case h_4 => exact stored_managerPort (by simp) _
  case h_5 =>
    unfold doFlush
    split
    · rfl
    · exact congrArg Mgu.managerPort (by simp)
  case h_6 => exact congrArg Mgu.managerPort (by simp [doReportNow])
  case h_7 => exact congrArg Mgu.managerPort (by simp [doMark])
  case h_9 =>
    unfold doResetTracking
    split
    · rfl
    · exact stored_managerPort (by rw [(recomputeMajority_frame _).2.2.2.2.2.1, resetServer_foldl_mgu]) _
  all_goals rfl

theorem execute_managerPort (ing : Ingress) (r : Request) (s : State) :
    (execute ing r s).state.mgu.managerPort = s.mgu.managerPort := by
  unfold execute
  split
  · unfold doCommand
    split
    · rfl
    split
    · rfl
    · split
      · exact applyDo_managerPort ..
      · rfl
  split
  · unfold doEntry
    split
    · rfl
    split
    · rfl
    split
    · rw [doRead_state]
    · unfold doWrite
      split
      · split
        · exact applyWrite_managerPort ..
        · rfl
      all_goals rfl
    · unfold doSwap
      split
      · split
        · exact applySwap_managerPort ..
        · rfl
      all_goals rfl
  · rfl

/-! ### A request leaves the links -/

theorem setPort_link {s : State} {p : Port} {e : Egm} (h : e.link = (s.port p).link) (q : Port) :
    ((s.setPort p e).port q).link = (s.port q).link := by
  by_cases hq : q = p
  · rw [hq, setPort_port_same, h]
  · rw [setPort_port_ne _ _ _ _ hq]

/-- Effects that are not loose leave the links. -/
theorem effect_link {s t : State} (he : Effect false s t) (q : Port) : (t.port q).link = (s.port q).link := by
  have h := link_indifferent q (s.port q).link
  cases he with
  | plain _ owners => exact ((owners.resolve_left Bool.false_ne_true).ports q).link
  | holdover => exact h.beginHoldover _ rfl
  | freerun => exact h.setDState _ _ rfl
  | serve => exact h.setDState _ _ rfl
  | start => exact h.startDiscipline _ rfl
  | stop => exact h.stopDiscipline _ rfl
  | majority => exact h.recomputeMajority _ rfl
  | server => exact h.changeServer _ _ _ _ _ _ rfl
  | clear => exact h.clearServer _ _ _ _ rfl
  | silentWarn => exact h.setSilentWarn _ _ rfl
  | alert =>
    rw [buildAlert_eq]
    split
    · exact (pushEntry_link ..).trans (pushEntry_link ..)
    · exact pushEntry_link ..
  | report can => exact pushEntry_link ..
  | probe => exact pushEntry_link ..
  | withdraw =>
    unfold withdrawProbe
    split
    · rfl
    · next f _ => exact setPort_link (p := f.port) (e := { s.port f.port with
        queue := (s.port f.port).queue.filter fun x => x.source != .probe }) rfl q
  | softReset told => cases told
  | hardReset told => cases told
  | _ => rfl

theorem effects_link {s t : State} (he : Effects false s t) (q : Port) : (t.port q).link = (s.port q).link :=
  he.keeps (P := fun u => (u.port q).link = (s.port q).link) (fun _ _ e hu => (effect_link e q).trans hu) rfl

/-! ### The frame and its requests (R200, R201) -/

theorem takeRequest_managerPort (ing : Ingress) (g : Progress) (r : Request) :
    (takeRequest ing g r).state.mgu.managerPort = g.state.mgu.managerPort := by
  unfold takeRequest
  split
  · rfl
  · dsimp only
    rw [(finish_frame _).2.2.2.2.2.2.2.2.1, execute_managerPort]

theorem takeRequests_managerPort (ing : Ingress) (rs : List Request) (g : Progress) :
    (rs.foldl (takeRequest ing) g).state.mgu.managerPort = g.state.mgu.managerPort := by
  induction rs generalizing g with
  | nil => rfl
  | cons r rs ih => rw [List.foldl_cons, ih, takeRequest_managerPort]

/-- The part as the requests of an accepted frame find it (R200). -/
def requestsBegun (p : Port) (s : State) : State :=
  countMgu (fun c => { c with accepted := bump c.accepted }) { s with mgu := { s.mgu with managerPort := p } }

section
variable {s : State} {p : Port} {a : Arriving} {flow : Flow}

theorem exec_mgmtReqEnd (h : EndsGoodAs .mgmtReq p flow a s) :
    exec (.mgmtReqEnd p flow) s = .next (finish (takeManagement p a (ended p flow a s))) := by
  rw [← endsGood_eq (isFor := fun c => c == .mgmtReq) h rfl (takeManagement p)]
  rfl

theorem fromManager_iff : fromManager a s = true ↔
    s.mgu.station.manager = 0 ∨ sourceAddress a.octets = s.mgu.station.manager := by
  simp [fromManager]

theorem takeManagement_refused (h : ¬fromManager a s = true) : takeManagement p a s =
    countMgu (fun c => { c with refusedSource := bump c.refusedSource }) s := if_pos (by simp [h])

theorem takeManagement_busy (h : fromManager a s = true) (hbusy : s.mgu.response.isSome = true) :
    takeManagement p a s = countMgu (fun c => { c with busyDrops := bump c.busyDrops }) s :=
  (if_neg (by simp [h])).trans (if_pos hbusy)

theorem takeManagement_malformed (h : fromManager a s = true) (hidle : ¬s.mgu.response.isSome = true)
    (hform : requestsOf (gtpBody a.settings a.octets) = none) :
    takeManagement p a s = countMgu (fun c => { c with malformed := bump c.malformed }) s := by
  rw [takeManagement, if_neg (by simp [h]), if_neg hidle, hform]

theorem takeManagement_accepted (h : fromManager a s = true) (hidle : ¬s.mgu.response.isSome = true)
    {rs : List Request} (hform : requestsOf (gtpBody a.settings a.octets) = some rs) :
    takeManagement p a s = acceptRequests p a rs s := by
  rw [takeManagement, if_neg (by simp [h]), if_neg hidle, hform]

/-- A response is queued to its port, or dropped at once and counted (R197, R207). -/
theorem queueResponse_eq (p : Port) (octets : List Byte) (resets : Bool) (e : State) :
    queueResponse p octets resets e = if (e.port p).link then
      pushEntry p .response { e with mgu := { e.mgu with
        response := some { octets := octets, port := p, resetPending := resets } } }
    else responseDropped (countDrop p { e with mgu := { e.mgu with
        response := some { octets := octets, port := p, resetPending := resets } } }) := rfl

/-- What queuing a response leaves. -/
theorem queueResponse_spec (p : Port) (octets : List Byte) (resets : Bool) (e : State) :
    let t := queueResponse p octets resets e
    SameBut [.egm, .mgu] e t ∧ t.port p.other = e.port p.other ∧
    (if (e.port p).link then
      t.port p = { e.port p with queue := (e.port p).queue ++ [{ source := .response }] } ∧
      t.mgu = { e.mgu with response := some { octets := octets, port := p, resetPending := resets } }
    else
      t.port p = { e.port p with ctr := { (e.port p).ctr with
        originatedDrops := bump (e.port p).ctr.originatedDrops } } ∧
      t.mgu = { e.mgu with
        response := none
        ctr := { e.mgu.ctr with responsesDropped := bump e.mgu.ctr.responsesDropped } }) := by
  intro t
  by_cases hlink : (e.port p).link = true
  · have ht : t = pushEntry p .response { e with mgu := { e.mgu with
        response := some { octets := octets, port := p, resetPending := resets } } } := if_pos hlink
    rw [if_pos hlink, ht]
    exact ⟨by simp [SameBut], pushEntry_port_other .., pushEntry_port_same .., rfl⟩
  · have ht : t = responseDropped (countDrop p { e with mgu := { e.mgu with
        response := some { octets := octets, port := p, resetPending := resets } } }) := if_neg hlink
    rw [if_neg hlink, ht]
    exact ⟨by simp [SameBut, responseDropped],
      countEgress_port_other e p fun c => { c with originatedDrops := bump c.originatedDrops },
      countEgress_port_same e p fun c => { c with originatedDrops := bump c.originatedDrops }, rfl⟩

end

/-- Settles O55: the tests of R200 in order, and an accepted frame's requests keep the manager port and the
links. -/
theorem managementFrameTested : Obligations.ManagementFrameTested := by
  intro p flow s a hends hdue m passes body
  obtain ⟨v, hv⟩ : ∃ v, v = ended p flow a s := ⟨_, rfl⟩
  have hmgu : v.mgu = s.mgu := by rw [hv]; simp
  have hquiet : v.wru.testDue = false := by rw [hv]; simp [hdue]
  have hkept : SameBut [.fcl, .egm] s v := hv ▸ ended_sameBut p flow a s
  have hpasses : fromManager a v = true ↔ passes := by
    rw [fromManager_iff, hmgu]
  have hexec := exec_mgmtReqEnd hends
  rw [← hv] at hexec
  have hcounted (f : MguCounters → MguCounters) : (finish (countMgu f v)).mgu = { m with ctr := f m.ctr } ∧
      SameBut [.fcl, .egm, .mgu] s (finish (countMgu f v)) := by
    rw [finish_of_no_test (by exact hquiet)]
    refine ⟨?_, ?_⟩
    · rw [countMgu_mgu, hmgu]
    · exact sameBut_trans (sameBut_mono hkept (by simp)) (by simp [SameBut])
  by_cases hfrom : passes
  · by_cases hbusy : m.response.isSome = true
    · rw [takeManagement_busy (hpasses.mpr hfrom) (by rw [hmgu]; exact hbusy)] at hexec
      refine ⟨_, hexec, ?_⟩
      beta_reduce
      rw [if_neg (not_not.mpr hfrom), if_pos hbusy]
      exact hcounted _
    · have hidle : ¬v.mgu.response.isSome = true := by rw [hmgu]; exact hbusy
      cases hrequests : requestsOf body with
      | none =>
        rw [takeManagement_malformed (hpasses.mpr hfrom) hidle hrequests] at hexec
        refine ⟨_, hexec, ?_⟩
        beta_reduce
        rw [if_neg (not_not.mpr hfrom), if_neg hbusy, if_pos rfl]
        exact hcounted _
      | some rs =>
        rw [takeManagement_accepted (hpasses.mpr hfrom) hidle hrequests] at hexec
        refine ⟨_, hexec, ?_⟩
        beta_reduce
        rw [if_neg (not_not.mpr hfrom), if_neg hbusy, if_neg nofun]
        obtain ⟨g, hg⟩ : ∃ g, g = rs.foldl (takeRequest a.ingress) { state := requestsBegun p v } := ⟨_, rfl⟩
        have haccepted : acceptRequests p a rs v =
            queueResponse p (responseFrame a rs.length g.results g.state) g.resetting g.state := by
          rw [hg]
          rfl
        have hlink : (g.state.port p).link = (s.port p).link := by
          have hended : (v.port p).link = (s.port p).link := by
            rw [hv, ended, closeArrival_port, applyFlow_link]
          rw [hg, ← hended]
          exact effects_link ((acceptFrame_effects p v).trans (takeRequests_effects a.ingress rs { state := requestsBegun p v })) p
        have hmanager : g.state.mgu.managerPort = p := by
          rw [hg, takeRequests_managerPort]
          rfl
        obtain ⟨hsame, hother, hport⟩ := queueResponse_spec p (responseFrame a rs.length g.results g.state)
          g.resetting g.state
        rw [← haccepted] at hsame hother hport
        rw [hlink] at hport
        have htmgu : (finish (acceptRequests p a rs v)).mgu = (acceptRequests p a rs v).mgu := by simp
        refine ⟨?_, ?_, fun r hr => ?_⟩
        · rw [htmgu]
          split at hport
          · rw [hport.2, hmanager]
          · rw [hport.2, hmanager]
        · rw [htmgu]
          split at hport
          · next up =>
            rw [if_pos up, hport.2]
            exact ⟨rfl, mem_queue_finish (by rw [hport.1]; exact List.mem_append_right _ (List.mem_singleton_self _))⟩
          · next down => rw [if_neg down, hport.2]
        · cases hr
          have hstart : { requestsBegun p v with serial := (requestsBegun p v).serial + 1 } =
              { v with
                mgu := { m with managerPort := p, ctr := { m.ctr with accepted := bump m.ctr.accepted } }
                serial := s.serial + 1 } := by
            have hserial : v.serial = s.serial := by rw [hv]; simp
            rw [← hserial, show m = v.mgu from hmgu.symm]
            rfl
          intro d e response
          have he : g.state = e := by
            rw [hg]
            exact congrArg (fun u => finish (execute a.ingress r u).state) (hv ▸ hstart)
          have hresults : g.results = resultOctets r d.status d.data := by
            rw [hg]
            exact congrArg (fun u => [] ++ resultOctets r (execute a.ingress r u).status
              (execute a.ingress r u).data) (hv ▸ hstart)
          have hresets : g.resetting = r.isPartReset := by rw [hg]; rfl
          have htest : (acceptRequests p a [r] v).wru.testDue = false := by
            have hwru : (acceptRequests p a [r] v).wru = e.wru := by
              obtain ⟨_, _, _, _, _, hwru, _⟩ := hsame
              rw [← he]
              exact hwru.resolve_left (by decide)
            rw [hwru]
            exact finish_testDue _
          rw [he, hresults, hresets] at hport
          rw [he] at hsame hother
          rw [finish_of_no_test htest]
          exact ⟨hsame, hother, hport⟩
  · rw [takeManagement_refused (mt hpasses.mp hfrom)] at hexec
    refine ⟨_, hexec, ?_⟩
    beta_reduce
    rw [if_pos hfrom]
    exact hcounted _

end Sys2Proof.Proofs
end

section
/-! SUPPORT. What the servo, the lock-in and unlock runs, the rate history and a step of the discipline do, and
the settled statement of an accepted exchange. -/

namespace Sys2Proof.Proofs

open Sys2Proof Sys2Proof.Machine Sys2Proof.Safety

/-! ### The servo (R39, R40) -/

/-- F as the servo leaves it (R39). -/
def servedFrequency (x : Int) (s : State) : Int :=
  clampInt (-Config.rateLimit) Config.rateLimit (nextFrequency x s)

/-- The count of frequency terms beyond their range, after the servo (R39). -/
def rateLimitsAfter (x : Int) (s : State) : Counter :=
  if nextFrequency x s < -Config.rateLimit ∨ Config.rateLimit < nextFrequency x s then
    bump s.dse.ctr.rateLimits
  else s.dse.ctr.rateLimits

/-- The clock after the servo has written F and S (R2 to R4, R39, R40). -/
def servedClock (x : Int) (s : State) : Rcu := { s.rcu with
  f := servedFrequency x s
  s := nextPhase x s
  a := appliedRate (servedFrequency x s) (nextPhase x s)
  k := increment (appliedRate (servedFrequency x s) (nextPhase x s))
  phaseTimer := some (after s.rcu.uptime (probeTicks s.dse.settings.p)) }

theorem slew_rcu (x : Int) (s : State) : (slew x s).rcu = servedClock x s := by
  unfold slew
  dsimp only
  split <;> rfl

theorem slew_dse (x : Int) (s : State) :
    (slew x s).dse = { s.dse with ctr := { s.dse.ctr with rateLimits := rateLimitsAfter x s } } := by
  unfold slew rateLimitsAfter
  dsimp only
  split <;> rfl

theorem slew_rrg (x : Int) (s : State) : (slew x s).rrg = s.rrg := by
  unfold slew
  dsimp only
  split <;> rfl

theorem rateConsistent_of_servedClock {x : Int} {s t : State} (h : t.rcu = servedClock x s) :
    RateConsistent t := by
  have hmem := clampInt_mem (-Config.rateLimit) Config.rateLimit (nextFrequency x s) (by decide)
  simp only [RateConsistent, h]
  exact ⟨hmem.1, hmem.2, rfl, rfl⟩

/-! ### The runs (R41, R42) -/

/-- The lock-in run after a slew (R41). -/
def lockRun (x : Int) (s : State) : Counter :=
  if x.natAbs ≤ s.dse.settings.lockWindow then bump s.dse.lockInRun else 0

theorem lockIn_rcu (x : Int) (s : State) : (lockIn x s).rcu = s.rcu := by simp

theorem lockIn_of_limit {x : Int} {s : State} (h : 4 ≤ (lockRun x s).toNat) :
    (lockIn x s).dse = { s.dse with state := .locked, lockInRun := 0, unlockRun := 0, lockCount := 0 } ∧
      (lockIn x s).rrg.seq = s.rrg.seq + if s.dse.state = .locked then 0 else 1 := by
  have hlocked : lockIn x s = (let t := setDState .locked { s with dse := { s.dse with
      lockInRun := lockRun x s } }
    { t with dse := { t.dse with lockInRun := 0, unlockRun := 0, lockCount := 0 } }) := if_pos h
  rw [hlocked]
  exact ⟨by simp, setDState_seq ..⟩

theorem lockIn_of_below {x : Int} {s : State} (h : ¬4 ≤ (lockRun x s).toNat) :
    lockIn x s = { s with dse := { s.dse with lockInRun := lockRun x s } } := if_neg h

/-- The unlock run after a slew (R42). -/
def unlockedRun (x : Int) (s : State) : Counter :=
  if s.dse.settings.unlockThreshold < x.natAbs then bump s.dse.unlockRun else 0

theorem unlock_of_limit {x : Int} {s : State} (h : 3 ≤ (unlockedRun x s).toNat) :
    unlock x s = (let t := setDState .acquire { s with dse := { s.dse with unlockRun := unlockedRun x s } }
      { t with dse := { t.dse with unlockRun := 0, lockInRun := 0 } }) := if_pos h

theorem unlock_of_below {x : Int} {s : State} (h : ¬3 ≤ (unlockedRun x s).toNat) :
    unlock x s = { s with dse := { s.dse with unlockRun := unlockedRun x s } } := if_neg h

/-- What the unlock run decides. -/
theorem unlock_spec {x : Int} {s : State} (hstate : s.dse.state = .locked) :
    (unlock x s).dse = (if 3 ≤ (unlockedRun x s).toNat then
        { s.dse with state := .acquire, unlockRun := 0, lockInRun := 0 }
      else { s.dse with unlockRun := unlockedRun x s }) ∧
    (unlock x s).rrg.seq = s.rrg.seq + (if 3 ≤ (unlockedRun x s).toNat then 1 else 0) ∧
    ∀ i, s.wru.pending.getLsbD i = true → (unlock x s).wru.pending.getLsbD i = true := by
  by_cases hrun : 3 ≤ (unlockedRun x s).toNat
  · rw [unlock_of_limit hrun, if_pos hrun, if_pos hrun]
    refine ⟨by simp, ?_, fun i hi => setDState_keeps_set _ hi⟩
    exact (setDState_seq ..).trans (by rw [hstate]; rfl)
  · rw [unlock_of_below hrun, if_neg hrun, if_neg hrun]
    exact ⟨rfl, (BitVec.add_zero _).symm, fun _ hi => hi⟩

/-! ### The rate history (R43) -/

/-- F has jumped from the mean of the rate history. -/
abbrev RateJumped (f : Int) (d : Dse) : Prop :=
  d.history ≠ [] ∧ d.settings.rateJumpLimit < (f - roundMean d.history).natAbs

/-- What a push of F onto the rate history leaves. -/
theorem pushHistory_spec (s : State) :
    (pushHistory s).dse = { s.dse with
      history := (s.rcu.f :: s.dse.history).take 4
      ctr := { s.dse.ctr with
        rateJumps := if RateJumped s.rcu.f s.dse then bump s.dse.ctr.rateJumps
          else s.dse.ctr.rateJumps } } ∧
    (pushHistory s).rrg.seq = s.rrg.seq + (if RateJumped s.rcu.f s.dse then 1 else 0) ∧
    (RateJumped s.rcu.f s.dse → (pushHistory s).wru.pending.getLsbD 52 = true) := by
  have htest : (!s.dse.history.isEmpty &&
      decide (s.dse.settings.rateJumpLimit < (s.rcu.f - roundMean s.dse.history).natAbs)) = true ↔
      RateJumped s.rcu.f s.dse := by simp
  unfold pushHistory
  dsimp only
  by_cases hjump : RateJumped s.rcu.f s.dse
  · rw [if_pos (htest.mpr hjump), if_pos hjump, if_pos hjump]
    refine ⟨by simp, by simp, fun _ => ?_⟩
    exact offer_keeps_set _ (latch_sets 52 _ (by decide))
  · rw [if_neg (htest.not.mpr hjump), if_neg hjump, if_neg hjump]
    exact ⟨rfl, (BitVec.add_zero _).symm, fun h => absurd h hjump⟩

/-- Every sixteenth accepted exchange in LOCKED pushes F. -/
abbrev PushDue (d : Dse) : Prop := (bump d.lockCount).toNat % 16 = 0

/-- What the advance of the lock count leaves. -/
theorem advanceLock_spec (s : State) :
    (advanceLock s).dse = { s.dse with
      lockCount := bump s.dse.lockCount
      history := if PushDue s.dse then (s.rcu.f :: s.dse.history).take 4 else s.dse.history
      ctr := { s.dse.ctr with
        rateJumps := if PushDue s.dse ∧ RateJumped s.rcu.f s.dse then bump s.dse.ctr.rateJumps
          else s.dse.ctr.rateJumps } } ∧
    (advanceLock s).rrg.seq = s.rrg.seq + (if PushDue s.dse ∧ RateJumped s.rcu.f s.dse then 1 else 0) ∧
    (PushDue s.dse ∧ RateJumped s.rcu.f s.dse → (advanceLock s).wru.pending.getLsbD 52 = true) := by
  by_cases hdue : PushDue s.dse
  · have hpush : advanceLock s = pushHistory { s with dse := { s.dse with
        lockCount := bump s.dse.lockCount } } := if_pos hdue
    obtain ⟨hdse, hseq, hpending⟩ := pushHistory_spec { s with dse := { s.dse with
      lockCount := bump s.dse.lockCount } }
    have hboth : PushDue s.dse ∧ RateJumped s.rcu.f s.dse ↔ RateJumped s.rcu.f s.dse := and_iff_right hdue
    rw [hpush, if_pos hdue, if_congr hboth rfl rfl, if_congr hboth rfl rfl]
    exact ⟨hdse, hseq, fun h => hpending h.2⟩
  · have hcount : advanceLock s = { s with dse := { s.dse with lockCount := bump s.dse.lockCount } } :=
      if_neg hdue
    have hnot : ¬(PushDue s.dse ∧ RateJumped s.rcu.f s.dse) := fun h => hdue h.1
    rw [hcount, if_neg hdue, if_neg hnot, if_neg hnot]
    exact ⟨rfl, (BitVec.add_zero _).symm, fun h => absurd h hnot⟩

/-! ### A step of rack time (R11, R37) -/

/-- The clock after the discipline has stepped it by `n` ns (R9, R11). -/
def steppedClock (n : Int) (r : Rcu) : Rcu := { r with
  time := r.time.moveTo (clampInt 0 lastNano ((r.time.nanos : Int) + n)).toNat
  epoch := r.epoch + 1
  timeSet := true }

/-- A step of rack time keeps F, S and the phase timer. -/
theorem steppedClock_keeps (n : Int) (r : Rcu) : (steppedClock n r).f = r.f ∧ (steppedClock n r).s = r.s ∧
    (steppedClock n r).phaseTimer = r.phaseTimer := by
  cases r
  exact ⟨rfl, rfl, rfl⟩

/-- What the discipline's step of rack time leaves. -/
theorem dseStep_spec (n : Int) (s : State) :
    (dseStep n s).rcu = steppedClock n s.rcu ∧
    (dseStep n s).dse = { s.dse with
      outstanding := none
      held := none
      ctr := { s.dse.ctr with dseSteps := bump s.dse.ctr.dseSteps } } ∧
    (dseStep n s).rrg.seq = s.rrg.seq + 1 ∧ (dseStep n s).wru.pending.getLsbD 51 = true := by
  refine ⟨?_, ?_, ?_, applyStep_sets_stepped _ _⟩
  · simp [dseStep, steppedClock]
  · simp [dseStep]
  · simp [dseStep]

/-- A stepped clock stands where the clamp says (R11). -/
theorem steppedClock_nanos (x : Int) (r : Rcu) : ((steppedClock (-x) r).time.nanos : Int) =
    max 0 (min (281474976710656 * 1000000000 - 1) ((r.time.nanos : Int) - x)) := by
  obtain ⟨v, hv⟩ : ∃ v, v = (r.time.nanos : Int) - x := ⟨_, rfl⟩
  have hmem := clampInt_mem 0 lastNano v (by decide)
  have hlast : (lastNano : Int) = 281474976710656 * 1000000000 - 1 := by decide
  rw [steppedClock, ← Int.sub_eq_add_neg, ← hv, moveTo_nanos _ (by omega), Int.toNat_of_nonneg hmem.1, clampInt,
    hlast]

/-! ### An accepted exchange outside LOCKED (R36, R37, R41) -/

/-- The offset that the servo runs on (R37, R38). -/
def servedOffset (x : Int) (s : State) : Int :=
  clampInt (-s.dse.settings.stepThreshold) s.dse.settings.stepThreshold x

theorem servedOffset_of_within {x : Int} {s : State} (h : ¬s.dse.settings.stepThreshold < x.natAbs) :
    servedOffset x s = x :=
  clampInt_of_mem _ _ _ (by omega) (by omega)

/-- What the servo works out depends on the clock, the settings and one counter alone. -/
theorem served_congr {s u : State} (hrcu : u.rcu = s.rcu) (hset : u.dse.settings = s.dse.settings)
    (hctr : u.dse.ctr.rateLimits = s.dse.ctr.rateLimits) (x : Int) :
    servedOffset x u = servedOffset x s ∧ servedClock x u = servedClock x s ∧
      rateLimitsAfter x u = rateLimitsAfter x s := by
  have hnext : nextFrequency x u = nextFrequency x s := by rw [nextFrequency, nextFrequency, hrcu, hset]
  have hphase : nextPhase x u = nextPhase x s := by rw [nextPhase, nextPhase, hset]
  refine ⟨by rw [servedOffset, servedOffset, hset], ?_, by rw [rateLimitsAfter, rateLimitsAfter, hnext, hctr]⟩
  rw [servedClock, servedClock, servedFrequency, servedFrequency, hnext, hphase, hrcu, hset]

/-- Of the states an exchange is accepted in, ACQUIRE alone is neither LOCKED nor unlocked. -/
theorem eq_acquire {d : DState} (hunlocked : ¬d.unlocked = true) (hlocked : d ≠ .locked) (hidle : d ≠ .idle) :
    d = .acquire := by
  cases d with
  | idle => exact absurd rfl hidle
  | acquire => rfl
  | locked => exact absurd rfl hlocked
  | holdover => exact absurd rfl hunlocked
  | freerun => exact absurd rfl hunlocked

/-- An exchange accepted in HOLDOVER or FREERUN first returns to ACQUIRE (R36). -/
theorem returnFromHoldover_spec {s : State} (hlocked : s.dse.state ≠ .locked) (hidle : s.dse.state ≠ .idle) :
    (returnFromHoldover s).dse = { s.dse with
      state := .acquire
      growthTimer := if s.dse.state.unlocked then none else s.dse.growthTimer } ∧
    (returnFromHoldover s).rrg.seq = s.rrg.seq + if s.dse.state = .acquire then 0 else 1 := by
  unfold returnFromHoldover
  split
  · next hunlocked =>
    exact ⟨by simp, setDState_seq ..⟩
  · next hacquire =>
    have hstate : s.dse.state = .acquire := eq_acquire hacquire hlocked hidle
    rw [if_pos hstate]
    exact ⟨by rw [← hstate], (BitVec.add_zero _).symm⟩

/-- Beyond the step threshold, rack time is stepped. -/
theorem acquireExchange_stepped {x : Int} {s : State} (h : s.dse.settings.stepThreshold < x.natAbs)
    (hlocked : s.dse.state ≠ .locked) (hidle : s.dse.state ≠ .idle) :
    (acquireExchange x (returnFromHoldover s)).rcu = steppedClock (-x) s.rcu ∧
    (acquireExchange x (returnFromHoldover s)).dse = { s.dse with
      state := .acquire
      growthTimer := if s.dse.state.unlocked then none else s.dse.growthTimer
      outstanding := none
      held := none
      lockInRun := 0
      ctr := { s.dse.ctr with dseSteps := bump s.dse.ctr.dseSteps } } ∧
    (acquireExchange x (returnFromHoldover s)).rrg.seq =
      s.rrg.seq + (if s.dse.state = .acquire then 1 else 2) ∧
    (acquireExchange x (returnFromHoldover s)).wru.pending.getLsbD 51 = true := by
  obtain ⟨hreturned, hreturnedSeq⟩ := returnFromHoldover_spec hlocked hidle
  obtain ⟨hrcu, hdse, hseq, hpending⟩ := dseStep_spec (-x) (returnFromHoldover s)
  have hstepped : acquireExchange x (returnFromHoldover s) = (let t := dseStep (-x) (returnFromHoldover s)
      { t with dse := { t.dse with lockInRun := 0 } }) := if_pos (by rw [hreturned]; exact h)
  rw [(returnFromHoldover_frame s).1] at hrcu
  rw [hreturned] at hdse
  rw [hreturnedSeq] at hseq
  rw [hstepped]
  refine ⟨hrcu, by dsimp only; rw [hdse], hseq.trans ?_, hpending⟩
  split
  · exact congrArg (· + 1) (BitVec.add_zero _)
  · exact BitVec.add_assoc ..

/-- DSE once an exchange outside LOCKED has been served, its lock-in run not decided yet. -/
def servedOutsideLock (x : Int) (s : State) : Dse := { s.dse with
  state := .acquire
  growthTimer := if s.dse.state.unlocked then none else s.dse.growthTimer
  ctr := { s.dse.ctr with rateLimits := rateLimitsAfter (servedOffset x s) s } }

/-- Within the step threshold, the servo runs and the lock-in run decides the state. -/
theorem acquireExchange_served {x : Int} {s : State} (h : ¬s.dse.settings.stepThreshold < x.natAbs)
    (hlocked : s.dse.state ≠ .locked) (hidle : s.dse.state ≠ .idle) :
    (acquireExchange x (returnFromHoldover s)).rcu = servedClock (servedOffset x s) s ∧
    (acquireExchange x (returnFromHoldover s)).dse = (if 4 ≤ (lockRun x s).toNat then
        { servedOutsideLock x s with state := .locked, lockInRun := 0, unlockRun := 0, lockCount := 0 }
      else { servedOutsideLock x s with lockInRun := lockRun x s }) ∧
    (acquireExchange x (returnFromHoldover s)).rrg.seq =
      s.rrg.seq + (if s.dse.state = .acquire then 0 else 1) + (if 4 ≤ (lockRun x s).toNat then 1 else 0) := by
  obtain ⟨hreturned, hreturnedSeq⟩ := returnFromHoldover_spec hlocked hidle
  obtain ⟨-, hclock, hlimits⟩ := served_congr (u := returnFromHoldover s) (returnFromHoldover_frame s).1
    (by rw [hreturned]) (by rw [hreturned]) x
  obtain ⟨u, hu⟩ : ∃ u, u = slew x (returnFromHoldover s) := ⟨_, rfl⟩
  have hserved : acquireExchange x (returnFromHoldover s) = lockIn x u := by
    rw [hu]
    exact if_neg (by rw [hreturned]; exact h)
  have hudse := slew_dse x (returnFromHoldover s)
  rw [← hu, hlimits, hreturned] at hudse
  have hurrg := slew_rrg x (returnFromHoldover s)
  rw [← hu] at hurrg
  have hrun : lockRun x u = lockRun x s := by
    rw [lockRun, hudse]
    rfl
  rw [hserved, lockIn_rcu, servedOutsideLock, servedOffset_of_within h]
  refine ⟨by rw [hu, slew_rcu, hclock], ?_⟩
  by_cases hlimit : 4 ≤ (lockRun x s).toNat
  · obtain ⟨hdse, hseq⟩ := lockIn_of_limit (x := x) (s := u) (hrun ▸ hlimit)
    rw [hurrg, hreturnedSeq, hudse] at hseq
    rw [hdse, hudse, if_pos hlimit, if_pos hlimit]
    exact ⟨rfl, hseq⟩
  · rw [lockIn_of_below (s := u) (hrun ▸ hlimit), hrun, hudse, hurrg, hreturnedSeq, if_neg hlimit, if_neg hlimit]
    exact ⟨rfl, (BitVec.add_zero _).symm⟩

/-! ### An accepted exchange in LOCKED (R38, R42, R43) -/

/-- Beyond the step threshold, with step-in-lock on, rack time is stepped. -/
theorem lockedExchange_stepped {x : Int} {s : State} (hstate : s.dse.state = .locked)
    (h : s.dse.settings.stepThreshold < x.natAbs ∧ s.dse.settings.stepInLock = true) :
    (lockedExchange x s).rcu = steppedClock (-x) s.rcu ∧
    (lockedExchange x s).dse = { s.dse with
      state := .acquire
      outstanding := none
      held := none
      lockInRun := 0
      unlockRun := 0
      ctr := { s.dse.ctr with dseSteps := bump s.dse.ctr.dseSteps } } ∧
    (lockedExchange x s).rrg.seq = s.rrg.seq + 2 ∧
    (lockedExchange x s).wru.pending.getLsbD 51 = true := by
  have hstepped : lockedExchange x s = (let t := setDState .acquire (dseStep (-x) s)
      { t with dse := { t.dse with lockInRun := 0, unlockRun := 0 } }) := (if_pos h.1).trans (if_pos h.2)
  obtain ⟨hrcu, hdse, hseq, hpending⟩ := dseStep_spec (-x) s
  rw [hstepped]
  refine ⟨(setDState_frame _ _).1.trans hrcu, ?_, (setDState_seq ..).trans ?_, setDState_keeps_set _ hpending⟩
  · dsimp only
    rw [setDState_dse, hdse]
  · rw [hseq, hdse, hstate]
    exact BitVec.add_assoc ..

/-- The count of clamped offsets, after the exchange (R38). -/
def offsetClampsAfter (x : Int) (s : State) : Counter :=
  if s.dse.settings.stepThreshold < x.natAbs then bump s.dse.ctr.offsetClamps else s.dse.ctr.offsetClamps

/-- The lock count is due to push F, and F as served has jumped (R43). -/
abbrev JumpServed (x : Int) (s : State) : Prop :=
  PushDue s.dse ∧ RateJumped (servedFrequency (servedOffset x s) s) s.dse

/-- DSE once an exchange in LOCKED has been served, its unlock run not decided yet. -/
def servedInLock (x : Int) (s : State) : Dse := { s.dse with
  lockCount := bump s.dse.lockCount
  history := if PushDue s.dse then (servedFrequency (servedOffset x s) s :: s.dse.history).take 4
    else s.dse.history
  ctr := { s.dse.ctr with
    rateLimits := rateLimitsAfter (servedOffset x s) s
    offsetClamps := offsetClampsAfter x s
    rateJumps := if JumpServed x s then bump s.dse.ctr.rateJumps else s.dse.ctr.rateJumps } }

/-- The state with a clamped offset counted. -/
def clampCounted (x : Int) (s : State) : State :=
  countDse (fun c => { c with offsetClamps := offsetClampsAfter x s }) s

theorem lockedExchange_eq_unlock {x : Int} {s : State}
    (h : ¬(s.dse.settings.stepThreshold < x.natAbs ∧ s.dse.settings.stepInLock = true)) :
    lockedExchange x s = unlock x (advanceLock (slew (servedOffset x s) (clampCounted x s))) := by
  unfold lockedExchange clampCounted offsetClampsAfter
  dsimp only
  by_cases hbeyond : s.dse.settings.stepThreshold < x.natAbs
  · simp only [if_pos hbeyond]
    exact if_neg fun hstep => h ⟨hbeyond, hstep⟩
  · simp only [if_neg hbeyond, servedOffset_of_within hbeyond]
    rfl

/-- Else the servo runs, and the unlock run decides the state. -/
theorem lockedExchange_served {x : Int} {s : State} (hstate : s.dse.state = .locked)
    (h : ¬(s.dse.settings.stepThreshold < x.natAbs ∧ s.dse.settings.stepInLock = true)) :
    (lockedExchange x s).rcu = servedClock (servedOffset x s) s ∧
    (lockedExchange x s).dse = (if 3 ≤ (unlockedRun x s).toNat then
        { servedInLock x s with state := .acquire, unlockRun := 0, lockInRun := 0 }
      else { servedInLock x s with unlockRun := unlockedRun x s }) ∧
    (lockedExchange x s).rrg.seq = s.rrg.seq + (if JumpServed x s then 1 else 0) +
      (if 3 ≤ (unlockedRun x s).toNat then 1 else 0) ∧
    (JumpServed x s → (lockedExchange x s).wru.pending.getLsbD 52 = true) := by
  obtain ⟨u, hu⟩ : ∃ u, u = slew (servedOffset x s) (clampCounted x s) := ⟨_, rfl⟩
  have hrcu : u.rcu = servedClock (servedOffset x s) s := by
    rw [hu, slew_rcu]
    rfl
  have hdse : u.dse = { s.dse with ctr := { s.dse.ctr with
      rateLimits := rateLimitsAfter (servedOffset x s) s
      offsetClamps := offsetClampsAfter x s } } := by
    rw [hu, slew_dse]
    rfl
  have hrrg : u.rrg = s.rrg := by
    rw [hu, slew_rrg]
    rfl
  have hf : u.rcu.f = servedFrequency (servedOffset x s) s := by
    rw [hrcu]
    rfl
  obtain ⟨hadvanced, hadvancedSeq, hjumped⟩ := advanceLock_spec u
  have hlocked : (advanceLock u).dse = servedInLock x s := by
    rw [hadvanced, hf, hdse]
    rfl
  obtain ⟨hunlock, hunlockSeq, hkeeps⟩ := unlock_spec (x := x) (s := advanceLock u) (by rw [hlocked]; exact hstate)
  have hrun : unlockedRun x (advanceLock u) = unlockedRun x s := by
    rw [unlockedRun, hlocked]
    rfl
  rw [hrun, hlocked] at hunlock
  rw [hrun, hadvancedSeq, hf, hdse, hrrg] at hunlockSeq
  rw [hf, hdse] at hjumped
  rw [lockedExchange_eq_unlock h, ← hu]
  exact ⟨by simpa using hrcu, hunlock, hunlockSeq, fun hj => hkeeps 52 (hjumped hj)⟩

/-! ### The way to the servo (R29 to R36) -/

/-- The state in which an exchange has been accepted, the discipline state not looked at yet (R35). -/
def exchangeNoted (delay theta : Int) (s : State) : State :=
  { s with dse := { s.dse with
    outstanding := none
    window := pushDelay s.dse.window delay.toNat
    ctr := { s.dse.ctr with echoesAccepted := bump s.dse.ctr.echoesAccepted }
    missRun := 0
    lastOffset := some theta } }

section
variable {a : Arriving} {s : State} {t1 : Stamp} {delay theta : Int}

/-- A matched echo that passes every screen is accepted. -/
theorem takeEcho_accepted (hmatch : matchEcho a s = some t1)
    (hdelay : exchangeDelay t1 (echoFields a).t2 (echoFields a).t3 a.ingress.stamp = delay)
    (htheta : exchangeOffset t1 (echoFields a).t2 (echoFields a).t3 a.ingress.stamp = theta)
    (h2 : (echoFields a).t2.ns.toNat ≤ 999999999) (h3 : (echoFields a).t3.ns.toNat ≤ 999999999)
    (hquality : (echoFields a).serverQuality = 4) (hnonneg : 0 ≤ delay)
    (hceiling : delay ≤ s.dse.settings.delayCeiling)
    (hgate : gatedOut s.dse.window s.dse.settings.gate delay.toNat = false) :
    takeEcho a s = acceptExchange theta { s with dse := { s.dse with
      outstanding := none, window := pushDelay s.dse.window delay.toNat } } := by
  rw [takeEcho, hmatch]
  dsimp only
  rw [screenEcho, if_neg (by omega), if_neg (by rw [hquality]; exact fun h => h rfl), hdelay, htheta,
    screenDelay, if_neg (by dsimp only; omega), gateExchange]
  dsimp only
  rw [if_neg (by rw [hgate]; exact Bool.false_ne_true)]

/-- An exchange accepted in LOCKED. -/
theorem acceptExchange_in_lock (h : s.dse.state = .locked) :
    acceptExchange theta { s with dse := { s.dse with
      outstanding := none, window := pushDelay s.dse.window delay.toNat } } =
    lockedExchange theta (exchangeNoted delay theta s) := by
  obtain ⟨v, hv⟩ : ∃ v, v = exchangeNoted delay theta s := ⟨_, rfl⟩
  have hstate : v.dse.state = .locked := hv ▸ h
  have hkept : returnFromHoldover v = v := if_neg (by rw [hstate]; exact Bool.false_ne_true)
  unfold acceptExchange
  change (match (returnFromHoldover (exchangeNoted delay theta s)).dse.state with
    | .acquire => acquireExchange theta (returnFromHoldover (exchangeNoted delay theta s))
    | .locked => lockedExchange theta (returnFromHoldover (exchangeNoted delay theta s))
    | .idle | .holdover | .freerun => returnFromHoldover (exchangeNoted delay theta s)) = _
  rw [← hv, hkept, hstate]

/-- An exchange accepted outside LOCKED and IDLE. -/
theorem acceptExchange_outside_lock (hlocked : s.dse.state ≠ .locked) (hidle : s.dse.state ≠ .idle) :
    acceptExchange theta { s with dse := { s.dse with
      outstanding := none, window := pushDelay s.dse.window delay.toNat } } =
    acquireExchange theta (returnFromHoldover (exchangeNoted delay theta s)) := by
  have hstate : (returnFromHoldover (exchangeNoted delay theta s)).dse.state = .acquire := by
    rw [(returnFromHoldover_spec (s := exchangeNoted delay theta s) hlocked hidle).1]
  unfold acceptExchange
  change (match (returnFromHoldover (exchangeNoted delay theta s)).dse.state with
    | .acquire => acquireExchange theta (returnFromHoldover (exchangeNoted delay theta s))
    | .locked => lockedExchange theta (returnFromHoldover (exchangeNoted delay theta s))
    | .idle | .holdover | .freerun => returnFromHoldover (exchangeNoted delay theta s)) = _
  rw [hstate]

end

theorem exec_echoEnd {p : Port} {flow : Flow} {s : State} {a : Arriving} (h : EndsGoodAs .echo p flow a s) :
    exec (.echoEnd p flow) s = .next (finish (takeEcho a (ended p flow a s))) := by
  rw [← endsGood_eq (isFor := fun c => c == .echo) h rfl takeEcho]
  rfl

/-- The end of a frame touches no block but FCL and EGM. -/
theorem ended_eq (p : Port) (flow : Flow) (a : Arriving) (s : State) :
    ∃ fcl egm, ended p flow a s = { s with fcl := fcl, egm := egm } := by
  refine ⟨(ended p flow a s).fcl, (ended p flow a s).egm, ?_⟩
  rcases hs : ended p flow a s
  have h := ended_frame p flow a s
  rw [hs] at h
  simp_all

/-- Settles O13: in LOCKED and outside it, beyond the step threshold and within it. -/
theorem acceptedExchangeServes : Obligations.AcceptedExchangeServes := by
  intro p flow s a t1 hends hmatch hidle hhistory e t4 delay theta set limit beyond thetaC f newF h2 h3 hquality
    hnonneg hceiling hgate
  obtain ⟨F, E, hended⟩ := ended_eq p flow a s
  rw [hended] at hmatch
  have htaken := takeEcho_accepted (delay := delay) (theta := theta) hmatch rfl rfl h2 h3 hquality hnonneg
    hceiling hgate
  obtain ⟨t, ht⟩ : ∃ t, t = finish (takeEcho a { s with fcl := F, egm := E }) := ⟨_, rfl⟩
  have hsame : SameBut [.dse, .rcu, .fcl, .wru, .rrg, .rpe, .egm] s t := by simp [SameBut, ht]
  have htrcu : t.rcu = (takeEcho a { s with fcl := F, egm := E }).rcu := by simp [ht]
  have htdse : t.dse = (takeEcho a { s with fcl := F, egm := E }).dse := by simp [ht]
  have htseq : t.rrg.seq = (takeEcho a { s with fcl := F, egm := E }).rrg.seq := by simp [ht]
  have htpending : t.wru.pending = (takeEcho a { s with fcl := F, egm := E }).wru.pending := by simp [ht]
  refine ⟨t, by rw [ht, exec_echoEnd hends, hended], ?_⟩
  by_cases hlocked : s.dse.state = .locked
  · rw [htaken.trans (acceptExchange_in_lock hlocked)] at htrcu htdse htseq htpending
    by_cases hstep : beyond ∧ set.stepInLock = true
    · obtain ⟨hrcu, hdse, hseq, hpending⟩ := lockedExchange_stepped (x := theta)
        (s := exchangeNoted delay theta { s with fcl := F, egm := E }) hlocked hstep
      replace hrcu : _ = steppedClock (-theta) s.rcu := hrcu
      obtain ⟨hf, hs, hphase⟩ := steppedClock_keeps (-theta) s.rcu
      rw [if_pos ⟨hstep.1, .inr hstep.2⟩, htrcu, htdse, htseq, htpending, hrcu, hdse, hseq,
        if_neg (by rw [hlocked]; decide)]
      exact ⟨rfl, rfl, rfl, rfl, rfl, rfl, hsame, steppedClock_nanos .., rfl, rfl, hf, hs, hphase, rfl, rfl, rfl, rfl,
        fun _ => rfl, rfl, hpending, rfl⟩
    · obtain ⟨hrcu, hdse, hseq, hpending⟩ := lockedExchange_served (x := theta)
        (s := exchangeNoted delay theta { s with fcl := F, egm := E }) hlocked hstep
      have hrate := rateConsistent_of_servedClock (htrcu.trans hrcu)
      have hbranch : ¬(beyond ∧ (s.dse.state ≠ .locked ∨ set.stepInLock = true)) :=
        fun h => hstep ⟨h.1, h.2.resolve_left (fun hne => hne hlocked)⟩
      rw [← htpending] at hpending
      rw [if_neg hbranch, if_pos hlocked, htrcu, htseq, hrcu, hseq]
      rw [hdse] at htdse
      split at htdse
      · next hrun =>
        rw [htdse]
        exact ⟨rfl, rfl, rfl, rfl, rfl, rfl, hsame, rfl, rfl, hrate, rfl, rfl, rfl, rfl, rfl, rfl, rfl, rfl,
          hpending, (if_pos hrun).mpr ⟨rfl, rfl, rfl⟩, rfl⟩
      · next hrun =>
        rw [htdse]
        exact ⟨rfl, rfl, rfl, rfl, rfl, rfl, hsame, rfl, rfl, hrate, rfl, rfl, rfl, rfl, rfl, rfl, rfl, rfl,
          hpending, (if_neg hrun).mpr ⟨hlocked, rfl, rfl⟩, rfl⟩
  · rw [htaken.trans (acceptExchange_outside_lock hlocked hidle)] at htrcu htdse htseq htpending
    by_cases hstep : beyond
    · obtain ⟨hrcu, hdse, hseq, hpending⟩ := acquireExchange_stepped (x := theta)
        (s := exchangeNoted delay theta { s with fcl := F, egm := E }) hstep hlocked hidle
      replace hrcu : _ = steppedClock (-theta) s.rcu := hrcu
      obtain ⟨hf, hs, hphase⟩ := steppedClock_keeps (-theta) s.rcu
      rw [if_pos ⟨hstep, .inl hlocked⟩, htrcu, htdse, htseq, htpending, hrcu, hdse, hseq]
      exact ⟨rfl, rfl, rfl, rfl, rfl, rfl, hsame, steppedClock_nanos .., rfl, rfl, hf, hs, hphase, rfl, rfl, rfl, rfl,
        fun h => absurd h hlocked, rfl, hpending, rfl⟩
    · obtain ⟨hrcu, hdse, hseq⟩ := acquireExchange_served (x := theta)
        (s := exchangeNoted delay theta { s with fcl := F, egm := E }) hstep hlocked hidle
      have hrate := rateConsistent_of_servedClock (htrcu.trans hrcu)
      have hbranch : ¬(beyond ∧ (s.dse.state ≠ .locked ∨ set.stepInLock = true)) := fun h => hstep h.1
      rw [if_neg hbranch, if_neg hlocked, if_neg hstep, htrcu, htseq, hrcu, hseq]
      rw [hdse] at htdse
      split at htdse
      · next hrun =>
        rw [htdse]
        exact ⟨rfl, rfl, rfl, rfl, rfl, rfl, hsame, rfl, rfl, hrate, rfl, rfl, rfl, rfl, rfl, rfl,
          (if_pos hrun).mpr ⟨rfl, rfl, rfl, rfl⟩, rfl⟩
      · next hrun =>
        rw [htdse]
        exact ⟨rfl, rfl, rfl, rfl, rfl, rfl, hsame, rfl, rfl, hrate, rfl, rfl, rfl, rfl, rfl, rfl,
          (if_neg hrun).mpr ⟨rfl, rfl, rfl⟩, rfl⟩

end Sys2Proof.Proofs
end
